-- ==== Sys2Proof/Word.lean ====
section
/-! DEFINITION. The word types: the data bus is one byte, addresses and register pairs are 16 bits (R7). -/

namespace Sys2Proof

/-- One byte: the unit of the data bus and of every 8-bit register (R7). -/
abbrev Byte := BitVec 8

/-- A 16-bit value: an address, the program counter, a register pair read whole (R7). -/
abbrev Word := BitVec 16

end Sys2Proof
end

