-- ==== Sys2Proof/WellFormed.lean ====
section
/-! DEFINITION. Which instruction terms stand for words of the machine. Every operand is a full field of its own width, and no value of
d8, a8, e8, d16 or a16 is reserved (R88, R90), so only two constructors have anything to check. -/

namespace Sys2Proof

/-- The twelve primary values with no table entry (R90). -/
def unassignedValues : List Byte :=
  [0x10, 0xD3, 0xDB, 0xDD, 0xE3, 0xE4, 0xEB, 0xEC, 0xED, 0xF4, 0xFC, 0xFD]

/-- An instruction is well formed when it is the name the decoder gives its words: `unassigned` carries one of the twelve values of R90;
`prefixCB x` never is, because the two bytes `CB x` are one instruction, the extended one (R91, log 10). -/
def Instr.wellFormed : Instr → Bool
  | .unassigned op => unassignedValues.contains op
  | .prefixCB _ => false
  | _ => true

end Sys2Proof
end

