-- ==== Sys2Proof/Decode.lean ====
section
/-! DEFINITION. Bytes to instructions and back: the helpers on bits, the fields (R83 to R87), the formats (R82), the primary and the extended
table (R89, R220), the decoder of a list of bytes, and the encoder. -/

namespace Sys2Proof

/-- The high byte of a 16-bit value (R9). -/
def hi8 (w : Word) : Byte := w.extractLsb' 8 8

/-- The low byte of a 16-bit value (R9). -/
def lo8 (w : Word) : Byte := w.extractLsb' 0 8

/-- `hi ++ lo` (R9, R10, R88). -/
def joinBytes (hi lo : Byte) : Word := hi ++ lo

/-- `sext_16` of a displacement (R9, R88). -/
def sext16 (e : Byte) : Word := e.signExtend 16

/-- `zext_16` of a byte (R9, R88). -/
def zext16 (b : Byte) : Word := b.setWidth 16

/-- A three-bit value as a name. -/
def Oct.ofBits (x : BitVec 3) : Oct :=
  match x.toNat with
  | 0 => .o0
  | 1 => .o1
  | 2 => .o2
  | 3 => .o3
  | 4 => .o4
  | 5 => .o5
  | 6 => .o6
  | _ => .o7

/-- The number a three-bit field holds. -/
def Oct.toNat : Oct → Nat
  | .o0 => 0
  | .o1 => 1
  | .o2 => 2
  | .o3 => 3
  | .o4 => 4
  | .o5 => 5
  | .o6 => 6
  | .o7 => 7

/-- Field `r` (R83). -/
def Operand8.ofField : Oct → Operand8
  | .o0 => .reg .B
  | .o1 => .reg .C
  | .o2 => .reg .D
  | .o3 => .reg .E
  | .o4 => .reg .H
  | .o5 => .reg .L
  | .o6 => .atHL
  | .o7 => .reg .A

/-- The source operand an accumulator operation takes from field `r` (R180). -/
def AluSrc.ofField (z : Oct) : AluSrc :=
  match Operand8.ofField z with
  | .reg r => .reg r
  | .atHL => .atHL

/-- Field `alu` (R86). -/
def AluOp.ofField : Oct → AluOp
  | .o0 => .ADD
  | .o1 => .ADC
  | .o2 => .SUB
  | .o3 => .SBC
  | .o4 => .AND
  | .o5 => .XOR
  | .o6 => .OR
  | .o7 => .CP

/-- The operation of extended group 0 (R87, R220). -/
def RotOp.ofField : Oct → RotOp
  | .o0 => .RLC
  | .o1 => .RRC
  | .o2 => .RL
  | .o3 => .RR
  | .o4 => .SLA
  | .o5 => .SRA
  | .o6 => .SWAP
  | .o7 => .SRL

/-! The instruction of each family that an operand selects. -/

/-- `LD r,r'` (R120). -/
def Instr.ldReg : Reg8 → Reg8 → Instr
  | .B, .B => .ld_B_B | .B, .C => .ld_B_C | .B, .D => .ld_B_D | .B, .E => .ld_B_E | .B, .H => .ld_B_H | .B, .L => .ld_B_L | .B, .A => .ld_B_A
  | .C, .B => .ld_C_B | .C, .C => .ld_C_C | .C, .D => .ld_C_D | .C, .E => .ld_C_E | .C, .H => .ld_C_H | .C, .L => .ld_C_L | .C, .A => .ld_C_A
  | .D, .B => .ld_D_B | .D, .C => .ld_D_C | .D, .D => .ld_D_D | .D, .E => .ld_D_E | .D, .H => .ld_D_H | .D, .L => .ld_D_L | .D, .A => .ld_D_A
  | .E, .B => .ld_E_B | .E, .C => .ld_E_C | .E, .D => .ld_E_D | .E, .E => .ld_E_E | .E, .H => .ld_E_H | .E, .L => .ld_E_L | .E, .A => .ld_E_A
  | .H, .B => .ld_H_B | .H, .C => .ld_H_C | .H, .D => .ld_H_D | .H, .E => .ld_H_E | .H, .H => .ld_H_H | .H, .L => .ld_H_L | .H, .A => .ld_H_A
  | .L, .B => .ld_L_B | .L, .C => .ld_L_C | .L, .D => .ld_L_D | .L, .E => .ld_L_E | .L, .H => .ld_L_H | .L, .L => .ld_L_L | .L, .A => .ld_L_A
  | .A, .B => .ld_A_B | .A, .C => .ld_A_C | .A, .D => .ld_A_D | .A, .E => .ld_A_E | .A, .H => .ld_A_H | .A, .L => .ld_A_L | .A, .A => .ld_A_A

/-- `LD r,(HL)` (R121). -/
def Instr.ldRegAtHL : Reg8 → Instr
  | .B => .ld_B_atHL | .C => .ld_C_atHL | .D => .ld_D_atHL | .E => .ld_E_atHL | .H => .ld_H_atHL | .L => .ld_L_atHL | .A => .ld_A_atHL

/-- `LD (HL),r` (R122). -/
def Instr.ldAtHLReg : Reg8 → Instr
  | .B => .ld_atHL_B | .C => .ld_atHL_C | .D => .ld_atHL_D | .E => .ld_atHL_E | .H => .ld_atHL_H | .L => .ld_atHL_L | .A => .ld_atHL_A

/-- `LD r,d8` (R123). -/
def Instr.ldRegImm : Reg8 → Byte → Instr
  | .B, d8 => .ld_B_d8 d8 | .C, d8 => .ld_C_d8 d8 | .D, d8 => .ld_D_d8 d8 | .E, d8 => .ld_E_d8 d8 | .H, d8 => .ld_H_d8 d8 | .L, d8 => .ld_L_d8 d8 | .A, d8 => .ld_A_d8 d8

/-- `INC r` (R150). -/
def Instr.incReg : Reg8 → Instr
  | .B => .inc_B | .C => .inc_C | .D => .inc_D | .E => .inc_E | .H => .inc_H | .L => .inc_L | .A => .inc_A

/-- `DEC r` (R152). -/
def Instr.decReg : Reg8 → Instr
  | .B => .dec_B | .C => .dec_C | .D => .dec_D | .E => .dec_E | .H => .dec_H | .L => .dec_L | .A => .dec_A

/-- `LD rr,d16` (R102). -/
def Instr.ldPairImm : Reg16 → Word → Instr
  | .BC, d16 => .ld_BC_d16 d16 | .DE, d16 => .ld_DE_d16 d16 | .HL, d16 => .ld_HL_d16 d16 | .SP, d16 => .ld_SP_d16 d16

/-- `INC rr` (R154). -/
def Instr.incPair : Reg16 → Instr
  | .BC => .inc_BC | .DE => .inc_DE | .HL => .inc_HL | .SP => .inc_SP

/-- `DEC rr` (R155). -/
def Instr.decPair : Reg16 → Instr
  | .BC => .dec_BC | .DE => .dec_DE | .HL => .dec_HL | .SP => .dec_SP

/-- `ADD HL,rr` (R189). -/
def Instr.addHL : Reg16 → Instr
  | .BC => .add_HL_BC | .DE => .add_HL_DE | .HL => .add_HL_HL | .SP => .add_HL_SP

/-- `PUSH rr` (R106). -/
def Instr.push : Reg16s → Instr
  | .BC => .push_BC | .DE => .push_DE | .HL => .push_HL | .AF => .push_AF

/-- `POP rr` (R107, R108). -/
def Instr.pop : Reg16s → Instr
  | .BC => .pop_BC | .DE => .pop_DE | .HL => .pop_HL | .AF => .pop_AF

/-- `JR cc,e8` (R162). -/
def Instr.jrIf : Cond → Byte → Instr
  | .NZ, e8 => .jr_NZ_e8 e8 | .Z, e8 => .jr_Z_e8 e8 | .NC, e8 => .jr_NC_e8 e8 | .C, e8 => .jr_C_e8 e8

/-- `JP cc,a16` (R164). -/
def Instr.jpIf : Cond → Word → Instr
  | .NZ, a16 => .jp_NZ_a16 a16 | .Z, a16 => .jp_Z_a16 a16 | .NC, a16 => .jp_NC_a16 a16 | .C, a16 => .jp_C_a16 a16

/-- `CALL cc,a16` (R167). -/
def Instr.callIf : Cond → Word → Instr
  | .NZ, a16 => .call_NZ_a16 a16 | .Z, a16 => .call_Z_a16 a16 | .NC, a16 => .call_NC_a16 a16 | .C, a16 => .call_C_a16 a16

/-- `RET cc` (R169). -/
def Instr.retIf : Cond → Instr
  | .NZ => .ret_NZ | .Z => .ret_Z | .NC => .ret_NC | .C => .ret_C

/-- `RST n` (R171): field value n, target n * 8. -/
def Instr.rst : Oct → Instr
  | .o0 => .rst_00 | .o1 => .rst_08 | .o2 => .rst_10 | .o3 => .rst_18 | .o4 => .rst_20 | .o5 => .rst_28 | .o6 => .rst_30 | .o7 => .rst_38

/-- The accumulator operations on each source (R180, R181 to R188). -/
def Instr.alu : AluOp → AluSrc → Instr
  | .ADD, .reg .B => .add_A_B | .ADD, .reg .C => .add_A_C | .ADD, .reg .D => .add_A_D | .ADD, .reg .E => .add_A_E | .ADD, .reg .H => .add_A_H | .ADD, .reg .L => .add_A_L | .ADD, .reg .A => .add_A_A
  | .ADD, .atHL => .add_A_atHL | .ADD, .imm d8 => .add_A_d8 d8
  | .ADC, .reg .B => .adc_A_B | .ADC, .reg .C => .adc_A_C | .ADC, .reg .D => .adc_A_D | .ADC, .reg .E => .adc_A_E | .ADC, .reg .H => .adc_A_H | .ADC, .reg .L => .adc_A_L | .ADC, .reg .A => .adc_A_A
  | .ADC, .atHL => .adc_A_atHL | .ADC, .imm d8 => .adc_A_d8 d8
  | .SUB, .reg .B => .sub_B | .SUB, .reg .C => .sub_C | .SUB, .reg .D => .sub_D | .SUB, .reg .E => .sub_E | .SUB, .reg .H => .sub_H | .SUB, .reg .L => .sub_L | .SUB, .reg .A => .sub_A
  | .SUB, .atHL => .sub_atHL | .SUB, .imm d8 => .sub_d8 d8
  | .SBC, .reg .B => .sbc_A_B | .SBC, .reg .C => .sbc_A_C | .SBC, .reg .D => .sbc_A_D | .SBC, .reg .E => .sbc_A_E | .SBC, .reg .H => .sbc_A_H | .SBC, .reg .L => .sbc_A_L | .SBC, .reg .A => .sbc_A_A
  | .SBC, .atHL => .sbc_A_atHL | .SBC, .imm d8 => .sbc_A_d8 d8
  | .AND, .reg .B => .and_B | .AND, .reg .C => .and_C | .AND, .reg .D => .and_D | .AND, .reg .E => .and_E | .AND, .reg .H => .and_H | .AND, .reg .L => .and_L | .AND, .reg .A => .and_A
  | .AND, .atHL => .and_atHL | .AND, .imm d8 => .and_d8 d8
  | .XOR, .reg .B => .xor_B | .XOR, .reg .C => .xor_C | .XOR, .reg .D => .xor_D | .XOR, .reg .E => .xor_E | .XOR, .reg .H => .xor_H | .XOR, .reg .L => .xor_L | .XOR, .reg .A => .xor_A
  | .XOR, .atHL => .xor_atHL | .XOR, .imm d8 => .xor_d8 d8
  | .OR, .reg .B => .or_B | .OR, .reg .C => .or_C | .OR, .reg .D => .or_D | .OR, .reg .E => .or_E | .OR, .reg .H => .or_H | .OR, .reg .L => .or_L | .OR, .reg .A => .or_A
  | .OR, .atHL => .or_atHL | .OR, .imm d8 => .or_d8 d8
  | .CP, .reg .B => .cp_B | .CP, .reg .C => .cp_C | .CP, .reg .D => .cp_D | .CP, .reg .E => .cp_E | .CP, .reg .H => .cp_H | .CP, .reg .L => .cp_L | .CP, .reg .A => .cp_A
  | .CP, .atHL => .cp_atHL | .CP, .imm d8 => .cp_d8 d8

/-- The rotate and shift group (R223 to R230). -/
def Instr.rot : RotOp → Operand8 → Instr
  | .RLC, .reg .B => .rlc_B | .RLC, .reg .C => .rlc_C | .RLC, .reg .D => .rlc_D | .RLC, .reg .E => .rlc_E | .RLC, .reg .H => .rlc_H | .RLC, .reg .L => .rlc_L | .RLC, .reg .A => .rlc_A | .RLC, .atHL => .rlc_atHL
  | .RRC, .reg .B => .rrc_B | .RRC, .reg .C => .rrc_C | .RRC, .reg .D => .rrc_D | .RRC, .reg .E => .rrc_E | .RRC, .reg .H => .rrc_H | .RRC, .reg .L => .rrc_L | .RRC, .reg .A => .rrc_A | .RRC, .atHL => .rrc_atHL
  | .RL, .reg .B => .rl_B | .RL, .reg .C => .rl_C | .RL, .reg .D => .rl_D | .RL, .reg .E => .rl_E | .RL, .reg .H => .rl_H | .RL, .reg .L => .rl_L | .RL, .reg .A => .rl_A | .RL, .atHL => .rl_atHL
  | .RR, .reg .B => .rr_B | .RR, .reg .C => .rr_C | .RR, .reg .D => .rr_D | .RR, .reg .E => .rr_E | .RR, .reg .H => .rr_H | .RR, .reg .L => .rr_L | .RR, .reg .A => .rr_A | .RR, .atHL => .rr_atHL
  | .SLA, .reg .B => .sla_B | .SLA, .reg .C => .sla_C | .SLA, .reg .D => .sla_D | .SLA, .reg .E => .sla_E | .SLA, .reg .H => .sla_H | .SLA, .reg .L => .sla_L | .SLA, .reg .A => .sla_A | .SLA, .atHL => .sla_atHL
  | .SRA, .reg .B => .sra_B | .SRA, .reg .C => .sra_C | .SRA, .reg .D => .sra_D | .SRA, .reg .E => .sra_E | .SRA, .reg .H => .sra_H | .SRA, .reg .L => .sra_L | .SRA, .reg .A => .sra_A | .SRA, .atHL => .sra_atHL
  | .SWAP, .reg .B => .swap_B | .SWAP, .reg .C => .swap_C | .SWAP, .reg .D => .swap_D | .SWAP, .reg .E => .swap_E | .SWAP, .reg .H => .swap_H | .SWAP, .reg .L => .swap_L | .SWAP, .reg .A => .swap_A | .SWAP, .atHL => .swap_atHL
  | .SRL, .reg .B => .srl_B | .SRL, .reg .C => .srl_C | .SRL, .reg .D => .srl_D | .SRL, .reg .E => .srl_E | .SRL, .reg .H => .srl_H | .SRL, .reg .L => .srl_L | .SRL, .reg .A => .srl_A | .SRL, .atHL => .srl_atHL

/-- `BIT b,r` and `BIT b,(HL)` (R231). -/
def Instr.bitOp : Oct → Operand8 → Instr
  | .o0, .reg .B => .bit_0_B | .o0, .reg .C => .bit_0_C | .o0, .reg .D => .bit_0_D | .o0, .reg .E => .bit_0_E | .o0, .reg .H => .bit_0_H | .o0, .reg .L => .bit_0_L | .o0, .reg .A => .bit_0_A | .o0, .atHL => .bit_0_atHL
  | .o1, .reg .B => .bit_1_B | .o1, .reg .C => .bit_1_C | .o1, .reg .D => .bit_1_D | .o1, .reg .E => .bit_1_E | .o1, .reg .H => .bit_1_H | .o1, .reg .L => .bit_1_L | .o1, .reg .A => .bit_1_A | .o1, .atHL => .bit_1_atHL
  | .o2, .reg .B => .bit_2_B | .o2, .reg .C => .bit_2_C | .o2, .reg .D => .bit_2_D | .o2, .reg .E => .bit_2_E | .o2, .reg .H => .bit_2_H | .o2, .reg .L => .bit_2_L | .o2, .reg .A => .bit_2_A | .o2, .atHL => .bit_2_atHL
  | .o3, .reg .B => .bit_3_B | .o3, .reg .C => .bit_3_C | .o3, .reg .D => .bit_3_D | .o3, .reg .E => .bit_3_E | .o3, .reg .H => .bit_3_H | .o3, .reg .L => .bit_3_L | .o3, .reg .A => .bit_3_A | .o3, .atHL => .bit_3_atHL
  | .o4, .reg .B => .bit_4_B | .o4, .reg .C => .bit_4_C | .o4, .reg .D => .bit_4_D | .o4, .reg .E => .bit_4_E | .o4, .reg .H => .bit_4_H | .o4, .reg .L => .bit_4_L | .o4, .reg .A => .bit_4_A | .o4, .atHL => .bit_4_atHL
  | .o5, .reg .B => .bit_5_B | .o5, .reg .C => .bit_5_C | .o5, .reg .D => .bit_5_D | .o5, .reg .E => .bit_5_E | .o5, .reg .H => .bit_5_H | .o5, .reg .L => .bit_5_L | .o5, .reg .A => .bit_5_A | .o5, .atHL => .bit_5_atHL
  | .o6, .reg .B => .bit_6_B | .o6, .reg .C => .bit_6_C | .o6, .reg .D => .bit_6_D | .o6, .reg .E => .bit_6_E | .o6, .reg .H => .bit_6_H | .o6, .reg .L => .bit_6_L | .o6, .reg .A => .bit_6_A | .o6, .atHL => .bit_6_atHL
  | .o7, .reg .B => .bit_7_B | .o7, .reg .C => .bit_7_C | .o7, .reg .D => .bit_7_D | .o7, .reg .E => .bit_7_E | .o7, .reg .H => .bit_7_H | .o7, .reg .L => .bit_7_L | .o7, .reg .A => .bit_7_A | .o7, .atHL => .bit_7_atHL

/-- `RES b,r` and `RES b,(HL)` (R232). -/
def Instr.resOp : Oct → Operand8 → Instr
  | .o0, .reg .B => .res_0_B | .o0, .reg .C => .res_0_C | .o0, .reg .D => .res_0_D | .o0, .reg .E => .res_0_E | .o0, .reg .H => .res_0_H | .o0, .reg .L => .res_0_L | .o0, .reg .A => .res_0_A | .o0, .atHL => .res_0_atHL
  | .o1, .reg .B => .res_1_B | .o1, .reg .C => .res_1_C | .o1, .reg .D => .res_1_D | .o1, .reg .E => .res_1_E | .o1, .reg .H => .res_1_H | .o1, .reg .L => .res_1_L | .o1, .reg .A => .res_1_A | .o1, .atHL => .res_1_atHL
  | .o2, .reg .B => .res_2_B | .o2, .reg .C => .res_2_C | .o2, .reg .D => .res_2_D | .o2, .reg .E => .res_2_E | .o2, .reg .H => .res_2_H | .o2, .reg .L => .res_2_L | .o2, .reg .A => .res_2_A | .o2, .atHL => .res_2_atHL
  | .o3, .reg .B => .res_3_B | .o3, .reg .C => .res_3_C | .o3, .reg .D => .res_3_D | .o3, .reg .E => .res_3_E | .o3, .reg .H => .res_3_H | .o3, .reg .L => .res_3_L | .o3, .reg .A => .res_3_A | .o3, .atHL => .res_3_atHL
  | .o4, .reg .B => .res_4_B | .o4, .reg .C => .res_4_C | .o4, .reg .D => .res_4_D | .o4, .reg .E => .res_4_E | .o4, .reg .H => .res_4_H | .o4, .reg .L => .res_4_L | .o4, .reg .A => .res_4_A | .o4, .atHL => .res_4_atHL
  | .o5, .reg .B => .res_5_B | .o5, .reg .C => .res_5_C | .o5, .reg .D => .res_5_D | .o5, .reg .E => .res_5_E | .o5, .reg .H => .res_5_H | .o5, .reg .L => .res_5_L | .o5, .reg .A => .res_5_A | .o5, .atHL => .res_5_atHL
  | .o6, .reg .B => .res_6_B | .o6, .reg .C => .res_6_C | .o6, .reg .D => .res_6_D | .o6, .reg .E => .res_6_E | .o6, .reg .H => .res_6_H | .o6, .reg .L => .res_6_L | .o6, .reg .A => .res_6_A | .o6, .atHL => .res_6_atHL
  | .o7, .reg .B => .res_7_B | .o7, .reg .C => .res_7_C | .o7, .reg .D => .res_7_D | .o7, .reg .E => .res_7_E | .o7, .reg .H => .res_7_H | .o7, .reg .L => .res_7_L | .o7, .reg .A => .res_7_A | .o7, .atHL => .res_7_atHL

/-- `SET b,r` and `SET b,(HL)` (R233). -/
def Instr.setOp : Oct → Operand8 → Instr
  | .o0, .reg .B => .set_0_B | .o0, .reg .C => .set_0_C | .o0, .reg .D => .set_0_D | .o0, .reg .E => .set_0_E | .o0, .reg .H => .set_0_H | .o0, .reg .L => .set_0_L | .o0, .reg .A => .set_0_A | .o0, .atHL => .set_0_atHL
  | .o1, .reg .B => .set_1_B | .o1, .reg .C => .set_1_C | .o1, .reg .D => .set_1_D | .o1, .reg .E => .set_1_E | .o1, .reg .H => .set_1_H | .o1, .reg .L => .set_1_L | .o1, .reg .A => .set_1_A | .o1, .atHL => .set_1_atHL
  | .o2, .reg .B => .set_2_B | .o2, .reg .C => .set_2_C | .o2, .reg .D => .set_2_D | .o2, .reg .E => .set_2_E | .o2, .reg .H => .set_2_H | .o2, .reg .L => .set_2_L | .o2, .reg .A => .set_2_A | .o2, .atHL => .set_2_atHL
  | .o3, .reg .B => .set_3_B | .o3, .reg .C => .set_3_C | .o3, .reg .D => .set_3_D | .o3, .reg .E => .set_3_E | .o3, .reg .H => .set_3_H | .o3, .reg .L => .set_3_L | .o3, .reg .A => .set_3_A | .o3, .atHL => .set_3_atHL
  | .o4, .reg .B => .set_4_B | .o4, .reg .C => .set_4_C | .o4, .reg .D => .set_4_D | .o4, .reg .E => .set_4_E | .o4, .reg .H => .set_4_H | .o4, .reg .L => .set_4_L | .o4, .reg .A => .set_4_A | .o4, .atHL => .set_4_atHL
  | .o5, .reg .B => .set_5_B | .o5, .reg .C => .set_5_C | .o5, .reg .D => .set_5_D | .o5, .reg .E => .set_5_E | .o5, .reg .H => .set_5_H | .o5, .reg .L => .set_5_L | .o5, .reg .A => .set_5_A | .o5, .atHL => .set_5_atHL
  | .o6, .reg .B => .set_6_B | .o6, .reg .C => .set_6_C | .o6, .reg .D => .set_6_D | .o6, .reg .E => .set_6_E | .o6, .reg .H => .set_6_H | .o6, .reg .L => .set_6_L | .o6, .reg .A => .set_6_A | .o6, .atHL => .set_6_atHL
  | .o7, .reg .B => .set_7_B | .o7, .reg .C => .set_7_C | .o7, .reg .D => .set_7_D | .o7, .reg .E => .set_7_E | .o7, .reg .H => .set_7_H | .o7, .reg .L => .set_7_L | .o7, .reg .A => .set_7_A | .o7, .atHL => .set_7_atHL

/-- `INC r`, `INC (HL)` by field `r` (R150, R151). -/
def Instr.incOf (y : Oct) : Instr :=
  match Operand8.ofField y with
  | .reg r => Instr.incReg r
  | .atHL => .inc_atHL

/-- `DEC r`, `DEC (HL)` by field `r` (R152, R153). -/
def Instr.decOf (y : Oct) : Instr :=
  match Operand8.ofField y with
  | .reg r => Instr.decReg r
  | .atHL => .dec_atHL

/-- `LD r,d8`, `LD (HL),d8` by field `r` (R123, R124). -/
def Instr.ldImmOf (y : Oct) (d8 : Byte) : Instr :=
  match Operand8.ofField y with
  | .reg r => Instr.ldRegImm r d8
  | .atHL => .ld_atHL_d8 d8

/-- The block 0x40 to 0x7F: the loads, and HALT where both fields are 6 (R89, R120 to R122, R211). -/
def Instr.ldBlock (y z : Oct) : Instr :=
  match Operand8.ofField y, Operand8.ofField z with
  | .reg d, .reg r => Instr.ldReg d r
  | .reg d, .atHL => Instr.ldRegAtHL d
  | .atHL, .reg r => Instr.ldAtHLReg r
  | .atHL, .atHL => .halt

/-- Opcode bits [7:6]. -/
def fieldX (op : Byte) : BitVec 2 := op.extractLsb' 6 2

/-- Opcode bits [5:3]. -/
def fieldY (op : Byte) : Oct := Oct.ofBits (op.extractLsb' 3 3)

/-- Opcode bits [2:0]. -/
def fieldZ (op : Byte) : Oct := Oct.ofBits (op.extractLsb' 0 3)

/-- The extended table (R220): group bits [7:6], then the operation or bit number, then the operand. -/
def decodeExtended (x : Byte) : Instr :=
  match (fieldX x).toNat with
  | 0 => Instr.rot (RotOp.ofField (fieldY x)) (Operand8.ofField (fieldZ x))
  | 1 => Instr.bitOp (fieldY x) (Operand8.ofField (fieldZ x))
  | 2 => Instr.resOp (fieldY x) (Operand8.ofField (fieldZ x))
  | _ => Instr.setOp (fieldY x) (Operand8.ofField (fieldZ x))

/-- The primary values 0x00 to 0x3F (R89). -/
def decodeLow (op b1 b2 : Byte) : Instr :=
  match fieldZ op, fieldY op with
  | .o0, .o0 => .nop
  | .o0, .o1 => .ld_atA16_SP (joinBytes b2 b1)
  | .o0, .o2 => .unassigned op
  | .o0, .o3 => .jr_e8 b1
  | .o0, .o4 => Instr.jrIf .NZ b1
  | .o0, .o5 => Instr.jrIf .Z b1
  | .o0, .o6 => Instr.jrIf .NC b1
  | .o0, .o7 => Instr.jrIf .C b1
  | .o1, .o0 => Instr.ldPairImm .BC (joinBytes b2 b1)
  | .o1, .o1 => Instr.addHL .BC
  | .o1, .o2 => Instr.ldPairImm .DE (joinBytes b2 b1)
  | .o1, .o3 => Instr.addHL .DE
  | .o1, .o4 => Instr.ldPairImm .HL (joinBytes b2 b1)
  | .o1, .o5 => Instr.addHL .HL
  | .o1, .o6 => Instr.ldPairImm .SP (joinBytes b2 b1)
  | .o1, .o7 => Instr.addHL .SP
  | .o2, .o0 => .ld_atBC_A
  | .o2, .o1 => .ld_A_atBC
  | .o2, .o2 => .ld_atDE_A
  | .o2, .o3 => .ld_A_atDE
  | .o2, .o4 => .ld_atHLinc_A
  | .o2, .o5 => .ld_A_atHLinc
  | .o2, .o6 => .ld_atHLdec_A
  | .o2, .o7 => .ld_A_atHLdec
  | .o3, .o0 => Instr.incPair .BC
  | .o3, .o1 => Instr.decPair .BC
  | .o3, .o2 => Instr.incPair .DE
  | .o3, .o3 => Instr.decPair .DE
  | .o3, .o4 => Instr.incPair .HL
  | .o3, .o5 => Instr.decPair .HL
  | .o3, .o6 => Instr.incPair .SP
  | .o3, .o7 => Instr.decPair .SP
  | .o4, y => Instr.incOf y
  | .o5, y => Instr.decOf y
  | .o6, y => Instr.ldImmOf y b1
  | .o7, .o0 => .rlca
  | .o7, .o1 => .rrca
  | .o7, .o2 => .rla
  | .o7, .o3 => .rra
  | .o7, .o4 => .daa
  | .o7, .o5 => .cpl
  | .o7, .o6 => .scf
  | .o7, .o7 => .ccf

/-- The primary values 0xC0 to 0xFF (R89), the CB byte leading into the extended table (R91). -/
def decodeHigh (op b1 b2 : Byte) : Instr :=
  match fieldZ op, fieldY op with
  | .o0, .o0 => Instr.retIf .NZ
  | .o0, .o1 => Instr.retIf .Z
  | .o0, .o2 => Instr.retIf .NC
  | .o0, .o3 => Instr.retIf .C
  | .o0, .o4 => .ldh_atA8_A b1
  | .o0, .o5 => .add_SP_e8 b1
  | .o0, .o6 => .ldh_A_atA8 b1
  | .o0, .o7 => .ld_HL_SPe8 b1
  | .o1, .o0 => Instr.pop .BC
  | .o1, .o1 => .ret
  | .o1, .o2 => Instr.pop .DE
  | .o1, .o3 => .reti
  | .o1, .o4 => Instr.pop .HL
  | .o1, .o5 => .jp_HL
  | .o1, .o6 => Instr.pop .AF
  | .o1, .o7 => .ld_SP_HL
  | .o2, .o0 => Instr.jpIf .NZ (joinBytes b2 b1)
  | .o2, .o1 => Instr.jpIf .Z (joinBytes b2 b1)
  | .o2, .o2 => Instr.jpIf .NC (joinBytes b2 b1)
  | .o2, .o3 => Instr.jpIf .C (joinBytes b2 b1)
  | .o2, .o4 => .ld_atC_A
  | .o2, .o5 => .ld_atA16_A (joinBytes b2 b1)
  | .o2, .o6 => .ld_A_atC
  | .o2, .o7 => .ld_A_atA16 (joinBytes b2 b1)
  | .o3, .o0 => .jp_a16 (joinBytes b2 b1)
  | .o3, .o1 => decodeExtended b1
  | .o3, .o2 => .unassigned op
  | .o3, .o3 => .unassigned op
  | .o3, .o4 => .unassigned op
  | .o3, .o5 => .unassigned op
  | .o3, .o6 => .di
  | .o3, .o7 => .ei
  | .o4, .o0 => Instr.callIf .NZ (joinBytes b2 b1)
  | .o4, .o1 => Instr.callIf .Z (joinBytes b2 b1)
  | .o4, .o2 => Instr.callIf .NC (joinBytes b2 b1)
  | .o4, .o3 => Instr.callIf .C (joinBytes b2 b1)
  | .o4, .o4 => .unassigned op
  | .o4, .o5 => .unassigned op
  | .o4, .o6 => .unassigned op
  | .o4, .o7 => .unassigned op
  | .o5, .o0 => Instr.push .BC
  | .o5, .o1 => .call_a16 (joinBytes b2 b1)
  | .o5, .o2 => Instr.push .DE
  | .o5, .o3 => .unassigned op
  | .o5, .o4 => Instr.push .HL
  | .o5, .o5 => .unassigned op
  | .o5, .o6 => Instr.push .AF
  | .o5, .o7 => .unassigned op
  | .o6, y => Instr.alu (AluOp.ofField y) (.imm b1)
  | .o7, y => Instr.rst y

/-- The instruction of an opcode byte and the two bytes after it (those its format does not use are not looked at). -/
def decodeOp (op b1 b2 : Byte) : Instr :=
  match (fieldX op).toNat with
  | 0 => decodeLow op b1 b2
  | 1 => Instr.ldBlock (fieldY op) (fieldZ op)
  | 2 => Instr.alu (AluOp.ofField (fieldY op)) (AluSrc.ofField (fieldZ op))
  | _ => decodeHigh op b1 b2

/-- The length of an instruction, from its first byte alone (R82, R92): the format `OP_D16` has 3 bytes, `OP_D8`, `OP_E8` and `CB` have 2,
`OP` and the unassigned values 1. -/
def opLength (op : Byte) : Nat :=
  match (fieldX op).toNat, fieldZ op, fieldY op with
  | 0, .o0, .o0 => 1
  | 0, .o0, .o1 => 3
  | 0, .o0, .o2 => 1
  | 0, .o0, _ => 2
  | 0, .o1, .o0 => 3
  | 0, .o1, .o2 => 3
  | 0, .o1, .o4 => 3
  | 0, .o1, .o6 => 3
  | 0, .o6, _ => 2
  | 3, .o0, .o4 => 2
  | 3, .o0, .o5 => 2
  | 3, .o0, .o6 => 2
  | 3, .o0, .o7 => 2
  | 3, .o2, .o0 => 3
  | 3, .o2, .o1 => 3
  | 3, .o2, .o2 => 3
  | 3, .o2, .o3 => 3
  | 3, .o2, .o5 => 3
  | 3, .o2, .o7 => 3
  | 3, .o3, .o0 => 3
  | 3, .o3, .o1 => 2
  | 3, .o4, .o0 => 3
  | 3, .o4, .o1 => 3
  | 3, .o4, .o2 => 3
  | 3, .o4, .o3 => 3
  | 3, .o5, .o1 => 3
  | 3, .o6, _ => 2
  | _, _, _ => 1

/-- Why a list of bytes is no instruction. An unassigned value is not among these: it decodes to `unassigned`, whose execution aborts (R90). -/
inductive DecodeError where
  /-- there is no byte at all -/
  | noBytes
  /-- the list ends before the instruction that begins with this opcode byte does -/
  | cutShort (op : Byte)
  deriving DecidableEq, Repr

/-- The first instruction of a list of bytes, and the bytes after it (R82, R88: byte 1 low, byte 2 high). -/
def decode : List Byte → Except DecodeError (Instr × List Byte)
  | [] => .error .noBytes
  | op :: rest =>
    match opLength op, rest with
    | 1, rest => .ok (decodeOp op 0 0, rest)
    | 2, b1 :: rest => .ok (decodeOp op b1 0, rest)
    | _, b1 :: b2 :: rest => .ok (decodeOp op b1 b2, rest)
    | _, _ => .error (.cutShort op)

/-- The bytes of an instruction, in address order (R82, R88, R89, R220). -/
def encode : Instr → List Byte
  | .nop => [0x00]
  | .ld_BC_d16 d16 => [0x01, lo8 d16, hi8 d16]
  | .ld_atBC_A => [0x02]
  | .inc_BC => [0x03]
  | .inc_B => [0x04]
  | .dec_B => [0x05]
  | .ld_B_d8 d8 => [0x06, d8]
  | .rlca => [0x07]
  | .ld_atA16_SP a16 => [0x08, lo8 a16, hi8 a16]
  | .add_HL_BC => [0x09]
  | .ld_A_atBC => [0x0A]
  | .dec_BC => [0x0B]
  | .inc_C => [0x0C]
  | .dec_C => [0x0D]
  | .ld_C_d8 d8 => [0x0E, d8]
  | .rrca => [0x0F]
  | .unassigned op => [op]
  | .ld_DE_d16 d16 => [0x11, lo8 d16, hi8 d16]
  | .ld_atDE_A => [0x12]
  | .inc_DE => [0x13]
  | .inc_D => [0x14]
  | .dec_D => [0x15]
  | .ld_D_d8 d8 => [0x16, d8]
  | .rla => [0x17]
  | .jr_e8 e8 => [0x18, e8]
  | .add_HL_DE => [0x19]
  | .ld_A_atDE => [0x1A]
  | .dec_DE => [0x1B]
  | .inc_E => [0x1C]
  | .dec_E => [0x1D]
  | .ld_E_d8 d8 => [0x1E, d8]
  | .rra => [0x1F]
  | .jr_NZ_e8 e8 => [0x20, e8]
  | .ld_HL_d16 d16 => [0x21, lo8 d16, hi8 d16]
  | .ld_atHLinc_A => [0x22]
  | .inc_HL => [0x23]
  | .inc_H => [0x24]
  | .dec_H => [0x25]
  | .ld_H_d8 d8 => [0x26, d8]
  | .daa => [0x27]
  | .jr_Z_e8 e8 => [0x28, e8]
  | .add_HL_HL => [0x29]
  | .ld_A_atHLinc => [0x2A]
  | .dec_HL => [0x2B]
  | .inc_L => [0x2C]
  | .dec_L => [0x2D]
  | .ld_L_d8 d8 => [0x2E, d8]
  | .cpl => [0x2F]
  | .jr_NC_e8 e8 => [0x30, e8]
  | .ld_SP_d16 d16 => [0x31, lo8 d16, hi8 d16]
  | .ld_atHLdec_A => [0x32]
  | .inc_SP => [0x33]
  | .inc_atHL => [0x34]
  | .dec_atHL => [0x35]
  | .ld_atHL_d8 d8 => [0x36, d8]
  | .scf => [0x37]
  | .jr_C_e8 e8 => [0x38, e8]
  | .add_HL_SP => [0x39]
  | .ld_A_atHLdec => [0x3A]
  | .dec_SP => [0x3B]
  | .inc_A => [0x3C]
  | .dec_A => [0x3D]
  | .ld_A_d8 d8 => [0x3E, d8]
  | .ccf => [0x3F]
  | .ld_B_B => [0x40]
  | .ld_B_C => [0x41]
  | .ld_B_D => [0x42]
  | .ld_B_E => [0x43]
  | .ld_B_H => [0x44]
  | .ld_B_L => [0x45]
  | .ld_B_atHL => [0x46]
  | .ld_B_A => [0x47]
  | .ld_C_B => [0x48]
  | .ld_C_C => [0x49]
  | .ld_C_D => [0x4A]
  | .ld_C_E => [0x4B]
  | .ld_C_H => [0x4C]
  | .ld_C_L => [0x4D]
  | .ld_C_atHL => [0x4E]
  | .ld_C_A => [0x4F]
  | .ld_D_B => [0x50]
  | .ld_D_C => [0x51]
  | .ld_D_D => [0x52]
  | .ld_D_E => [0x53]
  | .ld_D_H => [0x54]
  | .ld_D_L => [0x55]
  | .ld_D_atHL => [0x56]
  | .ld_D_A => [0x57]
  | .ld_E_B => [0x58]
  | .ld_E_C => [0x59]
  | .ld_E_D => [0x5A]
  | .ld_E_E => [0x5B]
  | .ld_E_H => [0x5C]
  | .ld_E_L => [0x5D]
  | .ld_E_atHL => [0x5E]
  | .ld_E_A => [0x5F]
  | .ld_H_B => [0x60]
  | .ld_H_C => [0x61]
  | .ld_H_D => [0x62]
  | .ld_H_E => [0x63]
  | .ld_H_H => [0x64]
  | .ld_H_L => [0x65]
  | .ld_H_atHL => [0x66]
  | .ld_H_A => [0x67]
  | .ld_L_B => [0x68]
  | .ld_L_C => [0x69]
  | .ld_L_D => [0x6A]
  | .ld_L_E => [0x6B]
  | .ld_L_H => [0x6C]
  | .ld_L_L => [0x6D]
  | .ld_L_atHL => [0x6E]
  | .ld_L_A => [0x6F]
  | .ld_atHL_B => [0x70]
  | .ld_atHL_C => [0x71]
  | .ld_atHL_D => [0x72]
  | .ld_atHL_E => [0x73]
  | .ld_atHL_H => [0x74]
  | .ld_atHL_L => [0x75]
  | .halt => [0x76]
  | .ld_atHL_A => [0x77]
  | .ld_A_B => [0x78]
  | .ld_A_C => [0x79]
  | .ld_A_D => [0x7A]
  | .ld_A_E => [0x7B]
  | .ld_A_H => [0x7C]
  | .ld_A_L => [0x7D]
  | .ld_A_atHL => [0x7E]
  | .ld_A_A => [0x7F]
  | .add_A_B => [0x80]
  | .add_A_C => [0x81]
  | .add_A_D => [0x82]
  | .add_A_E => [0x83]
  | .add_A_H => [0x84]
  | .add_A_L => [0x85]
  | .add_A_atHL => [0x86]
  | .add_A_A => [0x87]
  | .adc_A_B => [0x88]
  | .adc_A_C => [0x89]
  | .adc_A_D => [0x8A]
  | .adc_A_E => [0x8B]
  | .adc_A_H => [0x8C]
  | .adc_A_L => [0x8D]
  | .adc_A_atHL => [0x8E]
  | .adc_A_A => [0x8F]
  | .sub_B => [0x90]
  | .sub_C => [0x91]
  | .sub_D => [0x92]
  | .sub_E => [0x93]
  | .sub_H => [0x94]
  | .sub_L => [0x95]
  | .sub_atHL => [0x96]
  | .sub_A => [0x97]
  | .sbc_A_B => [0x98]
  | .sbc_A_C => [0x99]
  | .sbc_A_D => [0x9A]
  | .sbc_A_E => [0x9B]
  | .sbc_A_H => [0x9C]
  | .sbc_A_L => [0x9D]
  | .sbc_A_atHL => [0x9E]
  | .sbc_A_A => [0x9F]
  | .and_B => [0xA0]
  | .and_C => [0xA1]
  | .and_D => [0xA2]
  | .and_E => [0xA3]
  | .and_H => [0xA4]
  | .and_L => [0xA5]
  | .and_atHL => [0xA6]
  | .and_A => [0xA7]
  | .xor_B => [0xA8]
  | .xor_C => [0xA9]
  | .xor_D => [0xAA]
  | .xor_E => [0xAB]
  | .xor_H => [0xAC]
  | .xor_L => [0xAD]
  | .xor_atHL => [0xAE]
  | .xor_A => [0xAF]
  | .or_B => [0xB0]
  | .or_C => [0xB1]
  | .or_D => [0xB2]
  | .or_E => [0xB3]
  | .or_H => [0xB4]
  | .or_L => [0xB5]
  | .or_atHL => [0xB6]
  | .or_A => [0xB7]
  | .cp_B => [0xB8]
  | .cp_C => [0xB9]
  | .cp_D => [0xBA]
  | .cp_E => [0xBB]
  | .cp_H => [0xBC]
  | .cp_L => [0xBD]
  | .cp_atHL => [0xBE]
  | .cp_A => [0xBF]
  | .ret_NZ => [0xC0]
  | .pop_BC => [0xC1]
  | .jp_NZ_a16 a16 => [0xC2, lo8 a16, hi8 a16]
  | .jp_a16 a16 => [0xC3, lo8 a16, hi8 a16]
  | .call_NZ_a16 a16 => [0xC4, lo8 a16, hi8 a16]
  | .push_BC => [0xC5]
  | .add_A_d8 d8 => [0xC6, d8]
  | .rst_00 => [0xC7]
  | .ret_Z => [0xC8]
  | .ret => [0xC9]
  | .jp_Z_a16 a16 => [0xCA, lo8 a16, hi8 a16]
  | .prefixCB x => [0xCB, x]
  | .call_Z_a16 a16 => [0xCC, lo8 a16, hi8 a16]
  | .call_a16 a16 => [0xCD, lo8 a16, hi8 a16]
  | .adc_A_d8 d8 => [0xCE, d8]
  | .rst_08 => [0xCF]
  | .ret_NC => [0xD0]
  | .pop_DE => [0xD1]
  | .jp_NC_a16 a16 => [0xD2, lo8 a16, hi8 a16]
  | .call_NC_a16 a16 => [0xD4, lo8 a16, hi8 a16]
  | .push_DE => [0xD5]
  | .sub_d8 d8 => [0xD6, d8]
  | .rst_10 => [0xD7]
  | .ret_C => [0xD8]
  | .reti => [0xD9]
  | .jp_C_a16 a16 => [0xDA, lo8 a16, hi8 a16]
  | .call_C_a16 a16 => [0xDC, lo8 a16, hi8 a16]
  | .sbc_A_d8 d8 => [0xDE, d8]
  | .rst_18 => [0xDF]
  | .ldh_atA8_A a8 => [0xE0, a8]
  | .pop_HL => [0xE1]
  | .ld_atC_A => [0xE2]
  | .push_HL => [0xE5]
  | .and_d8 d8 => [0xE6, d8]
  | .rst_20 => [0xE7]
  | .add_SP_e8 e8 => [0xE8, e8]
  | .jp_HL => [0xE9]
  | .ld_atA16_A a16 => [0xEA, lo8 a16, hi8 a16]
  | .xor_d8 d8 => [0xEE, d8]
  | .rst_28 => [0xEF]
  | .ldh_A_atA8 a8 => [0xF0, a8]
  | .pop_AF => [0xF1]
  | .ld_A_atC => [0xF2]
  | .di => [0xF3]
  | .push_AF => [0xF5]
  | .or_d8 d8 => [0xF6, d8]
  | .rst_30 => [0xF7]
  | .ld_HL_SPe8 e8 => [0xF8, e8]
  | .ld_SP_HL => [0xF9]
  | .ld_A_atA16 a16 => [0xFA, lo8 a16, hi8 a16]
  | .ei => [0xFB]
  | .cp_d8 d8 => [0xFE, d8]
  | .rst_38 => [0xFF]
  | .rlc_B => [0xCB, 0x00]
  | .rlc_C => [0xCB, 0x01]
  | .rlc_D => [0xCB, 0x02]
  | .rlc_E => [0xCB, 0x03]
  | .rlc_H => [0xCB, 0x04]
  | .rlc_L => [0xCB, 0x05]
  | .rlc_atHL => [0xCB, 0x06]
  | .rlc_A => [0xCB, 0x07]
  | .rrc_B => [0xCB, 0x08]
  | .rrc_C => [0xCB, 0x09]
  | .rrc_D => [0xCB, 0x0A]
  | .rrc_E => [0xCB, 0x0B]
  | .rrc_H => [0xCB, 0x0C]
  | .rrc_L => [0xCB, 0x0D]
  | .rrc_atHL => [0xCB, 0x0E]
  | .rrc_A => [0xCB, 0x0F]
  | .rl_B => [0xCB, 0x10]
  | .rl_C => [0xCB, 0x11]
  | .rl_D => [0xCB, 0x12]
  | .rl_E => [0xCB, 0x13]
  | .rl_H => [0xCB, 0x14]
  | .rl_L => [0xCB, 0x15]
  | .rl_atHL => [0xCB, 0x16]
  | .rl_A => [0xCB, 0x17]
  | .rr_B => [0xCB, 0x18]
  | .rr_C => [0xCB, 0x19]
  | .rr_D => [0xCB, 0x1A]
  | .rr_E => [0xCB, 0x1B]
  | .rr_H => [0xCB, 0x1C]
  | .rr_L => [0xCB, 0x1D]
  | .rr_atHL => [0xCB, 0x1E]
  | .rr_A => [0xCB, 0x1F]
  | .sla_B => [0xCB, 0x20]
  | .sla_C => [0xCB, 0x21]
  | .sla_D => [0xCB, 0x22]
  | .sla_E => [0xCB, 0x23]
  | .sla_H => [0xCB, 0x24]
  | .sla_L => [0xCB, 0x25]
  | .sla_atHL => [0xCB, 0x26]
  | .sla_A => [0xCB, 0x27]
  | .sra_B => [0xCB, 0x28]
  | .sra_C => [0xCB, 0x29]
  | .sra_D => [0xCB, 0x2A]
  | .sra_E => [0xCB, 0x2B]
  | .sra_H => [0xCB, 0x2C]
  | .sra_L => [0xCB, 0x2D]
  | .sra_atHL => [0xCB, 0x2E]
  | .sra_A => [0xCB, 0x2F]
  | .swap_B => [0xCB, 0x30]
  | .swap_C => [0xCB, 0x31]
  | .swap_D => [0xCB, 0x32]
  | .swap_E => [0xCB, 0x33]
  | .swap_H => [0xCB, 0x34]
  | .swap_L => [0xCB, 0x35]
  | .swap_atHL => [0xCB, 0x36]
  | .swap_A => [0xCB, 0x37]
  | .srl_B => [0xCB, 0x38]
  | .srl_C => [0xCB, 0x39]
  | .srl_D => [0xCB, 0x3A]
  | .srl_E => [0xCB, 0x3B]
  | .srl_H => [0xCB, 0x3C]
  | .srl_L => [0xCB, 0x3D]
  | .srl_atHL => [0xCB, 0x3E]
  | .srl_A => [0xCB, 0x3F]
  | .bit_0_B => [0xCB, 0x40]
  | .bit_0_C => [0xCB, 0x41]
  | .bit_0_D => [0xCB, 0x42]
  | .bit_0_E => [0xCB, 0x43]
  | .bit_0_H => [0xCB, 0x44]
  | .bit_0_L => [0xCB, 0x45]
  | .bit_0_atHL => [0xCB, 0x46]
  | .bit_0_A => [0xCB, 0x47]
  | .bit_1_B => [0xCB, 0x48]
  | .bit_1_C => [0xCB, 0x49]
  | .bit_1_D => [0xCB, 0x4A]
  | .bit_1_E => [0xCB, 0x4B]
  | .bit_1_H => [0xCB, 0x4C]
  | .bit_1_L => [0xCB, 0x4D]
  | .bit_1_atHL => [0xCB, 0x4E]
  | .bit_1_A => [0xCB, 0x4F]
  | .bit_2_B => [0xCB, 0x50]
  | .bit_2_C => [0xCB, 0x51]
  | .bit_2_D => [0xCB, 0x52]
  | .bit_2_E => [0xCB, 0x53]
  | .bit_2_H => [0xCB, 0x54]
  | .bit_2_L => [0xCB, 0x55]
  | .bit_2_atHL => [0xCB, 0x56]
  | .bit_2_A => [0xCB, 0x57]
  | .bit_3_B => [0xCB, 0x58]
  | .bit_3_C => [0xCB, 0x59]
  | .bit_3_D => [0xCB, 0x5A]
  | .bit_3_E => [0xCB, 0x5B]
  | .bit_3_H => [0xCB, 0x5C]
  | .bit_3_L => [0xCB, 0x5D]
  | .bit_3_atHL => [0xCB, 0x5E]
  | .bit_3_A => [0xCB, 0x5F]
  | .bit_4_B => [0xCB, 0x60]
  | .bit_4_C => [0xCB, 0x61]
  | .bit_4_D => [0xCB, 0x62]
  | .bit_4_E => [0xCB, 0x63]
  | .bit_4_H => [0xCB, 0x64]
  | .bit_4_L => [0xCB, 0x65]
  | .bit_4_atHL => [0xCB, 0x66]
  | .bit_4_A => [0xCB, 0x67]
  | .bit_5_B => [0xCB, 0x68]
  | .bit_5_C => [0xCB, 0x69]
  | .bit_5_D => [0xCB, 0x6A]
  | .bit_5_E => [0xCB, 0x6B]
  | .bit_5_H => [0xCB, 0x6C]
  | .bit_5_L => [0xCB, 0x6D]
  | .bit_5_atHL => [0xCB, 0x6E]
  | .bit_5_A => [0xCB, 0x6F]
  | .bit_6_B => [0xCB, 0x70]
  | .bit_6_C => [0xCB, 0x71]
  | .bit_6_D => [0xCB, 0x72]
  | .bit_6_E => [0xCB, 0x73]
  | .bit_6_H => [0xCB, 0x74]
  | .bit_6_L => [0xCB, 0x75]
  | .bit_6_atHL => [0xCB, 0x76]
  | .bit_6_A => [0xCB, 0x77]
  | .bit_7_B => [0xCB, 0x78]
  | .bit_7_C => [0xCB, 0x79]
  | .bit_7_D => [0xCB, 0x7A]
  | .bit_7_E => [0xCB, 0x7B]
  | .bit_7_H => [0xCB, 0x7C]
  | .bit_7_L => [0xCB, 0x7D]
  | .bit_7_atHL => [0xCB, 0x7E]
  | .bit_7_A => [0xCB, 0x7F]
  | .res_0_B => [0xCB, 0x80]
  | .res_0_C => [0xCB, 0x81]
  | .res_0_D => [0xCB, 0x82]
  | .res_0_E => [0xCB, 0x83]
  | .res_0_H => [0xCB, 0x84]
  | .res_0_L => [0xCB, 0x85]
  | .res_0_atHL => [0xCB, 0x86]
  | .res_0_A => [0xCB, 0x87]
  | .res_1_B => [0xCB, 0x88]
  | .res_1_C => [0xCB, 0x89]
  | .res_1_D => [0xCB, 0x8A]
  | .res_1_E => [0xCB, 0x8B]
  | .res_1_H => [0xCB, 0x8C]
  | .res_1_L => [0xCB, 0x8D]
  | .res_1_atHL => [0xCB, 0x8E]
  | .res_1_A => [0xCB, 0x8F]
  | .res_2_B => [0xCB, 0x90]
  | .res_2_C => [0xCB, 0x91]
  | .res_2_D => [0xCB, 0x92]
  | .res_2_E => [0xCB, 0x93]
  | .res_2_H => [0xCB, 0x94]
  | .res_2_L => [0xCB, 0x95]
  | .res_2_atHL => [0xCB, 0x96]
  | .res_2_A => [0xCB, 0x97]
  | .res_3_B => [0xCB, 0x98]
  | .res_3_C => [0xCB, 0x99]
  | .res_3_D => [0xCB, 0x9A]
  | .res_3_E => [0xCB, 0x9B]
  | .res_3_H => [0xCB, 0x9C]
  | .res_3_L => [0xCB, 0x9D]
  | .res_3_atHL => [0xCB, 0x9E]
  | .res_3_A => [0xCB, 0x9F]
  | .res_4_B => [0xCB, 0xA0]
  | .res_4_C => [0xCB, 0xA1]
  | .res_4_D => [0xCB, 0xA2]
  | .res_4_E => [0xCB, 0xA3]
  | .res_4_H => [0xCB, 0xA4]
  | .res_4_L => [0xCB, 0xA5]
  | .res_4_atHL => [0xCB, 0xA6]
  | .res_4_A => [0xCB, 0xA7]
  | .res_5_B => [0xCB, 0xA8]
  | .res_5_C => [0xCB, 0xA9]
  | .res_5_D => [0xCB, 0xAA]
  | .res_5_E => [0xCB, 0xAB]
  | .res_5_H => [0xCB, 0xAC]
  | .res_5_L => [0xCB, 0xAD]
  | .res_5_atHL => [0xCB, 0xAE]
  | .res_5_A => [0xCB, 0xAF]
  | .res_6_B => [0xCB, 0xB0]
  | .res_6_C => [0xCB, 0xB1]
  | .res_6_D => [0xCB, 0xB2]
  | .res_6_E => [0xCB, 0xB3]
  | .res_6_H => [0xCB, 0xB4]
  | .res_6_L => [0xCB, 0xB5]
  | .res_6_atHL => [0xCB, 0xB6]
  | .res_6_A => [0xCB, 0xB7]
  | .res_7_B => [0xCB, 0xB8]
  | .res_7_C => [0xCB, 0xB9]
  | .res_7_D => [0xCB, 0xBA]
  | .res_7_E => [0xCB, 0xBB]
  | .res_7_H => [0xCB, 0xBC]
  | .res_7_L => [0xCB, 0xBD]
  | .res_7_atHL => [0xCB, 0xBE]
  | .res_7_A => [0xCB, 0xBF]
  | .set_0_B => [0xCB, 0xC0]
  | .set_0_C => [0xCB, 0xC1]
  | .set_0_D => [0xCB, 0xC2]
  | .set_0_E => [0xCB, 0xC3]
  | .set_0_H => [0xCB, 0xC4]
  | .set_0_L => [0xCB, 0xC5]
  | .set_0_atHL => [0xCB, 0xC6]
  | .set_0_A => [0xCB, 0xC7]
  | .set_1_B => [0xCB, 0xC8]
  | .set_1_C => [0xCB, 0xC9]
  | .set_1_D => [0xCB, 0xCA]
  | .set_1_E => [0xCB, 0xCB]
  | .set_1_H => [0xCB, 0xCC]
  | .set_1_L => [0xCB, 0xCD]
  | .set_1_atHL => [0xCB, 0xCE]
  | .set_1_A => [0xCB, 0xCF]
  | .set_2_B => [0xCB, 0xD0]
  | .set_2_C => [0xCB, 0xD1]
  | .set_2_D => [0xCB, 0xD2]
  | .set_2_E => [0xCB, 0xD3]
  | .set_2_H => [0xCB, 0xD4]
  | .set_2_L => [0xCB, 0xD5]
  | .set_2_atHL => [0xCB, 0xD6]
  | .set_2_A => [0xCB, 0xD7]
  | .set_3_B => [0xCB, 0xD8]
  | .set_3_C => [0xCB, 0xD9]
  | .set_3_D => [0xCB, 0xDA]
  | .set_3_E => [0xCB, 0xDB]
  | .set_3_H => [0xCB, 0xDC]
  | .set_3_L => [0xCB, 0xDD]
  | .set_3_atHL => [0xCB, 0xDE]
  | .set_3_A => [0xCB, 0xDF]
  | .set_4_B => [0xCB, 0xE0]
  | .set_4_C => [0xCB, 0xE1]
  | .set_4_D => [0xCB, 0xE2]
  | .set_4_E => [0xCB, 0xE3]
  | .set_4_H => [0xCB, 0xE4]
  | .set_4_L => [0xCB, 0xE5]
  | .set_4_atHL => [0xCB, 0xE6]
  | .set_4_A => [0xCB, 0xE7]
  | .set_5_B => [0xCB, 0xE8]
  | .set_5_C => [0xCB, 0xE9]
  | .set_5_D => [0xCB, 0xEA]
  | .set_5_E => [0xCB, 0xEB]
  | .set_5_H => [0xCB, 0xEC]
  | .set_5_L => [0xCB, 0xED]
  | .set_5_atHL => [0xCB, 0xEE]
  | .set_5_A => [0xCB, 0xEF]
  | .set_6_B => [0xCB, 0xF0]
  | .set_6_C => [0xCB, 0xF1]
  | .set_6_D => [0xCB, 0xF2]
  | .set_6_E => [0xCB, 0xF3]
  | .set_6_H => [0xCB, 0xF4]
  | .set_6_L => [0xCB, 0xF5]
  | .set_6_atHL => [0xCB, 0xF6]
  | .set_6_A => [0xCB, 0xF7]
  | .set_7_B => [0xCB, 0xF8]
  | .set_7_C => [0xCB, 0xF9]
  | .set_7_D => [0xCB, 0xFA]
  | .set_7_E => [0xCB, 0xFB]
  | .set_7_H => [0xCB, 0xFC]
  | .set_7_L => [0xCB, 0xFD]
  | .set_7_atHL => [0xCB, 0xFE]
  | .set_7_A => [0xCB, 0xFF]

/-- The bytes of an instruction whose bits spec/opcode_table.json numbers as `w`, three bytes, those past the instruction zero. The table
gives an extended row 16 bits with the CB byte in bits [15:8] and the extended opcode in bits [7:0] (R89, log 11); otherwise the first
byte is bits [7:0]. -/
def tableBytes (nbits w : Nat) : List Byte :=
  let v := w % 2 ^ nbits
  if nbits = 16 ∧ v / 0x100 = 0xCB then [0xCB, BitVec.ofNat 8 v, 0]
  else [BitVec.ofNat 8 v, BitVec.ofNat 8 (v / 0x100), BitVec.ofNat 8 (v / 0x10000)]

/-- The instruction the decoder reads from a word numbered as the opcode table numbers it. -/
def decodeTableWord (nbits w : Nat) : Option Instr :=
  match decode (tableBytes nbits w) with
  | .ok (i, _) => some i
  | .error _ => none

end Sys2Proof
end

