-- ==== Sys2Proof/Config.lean ====
section
/-! DEFINITION. What is fixed for the machine: sizes the document gives (R7) and the defaults of the launch parameters (R8).
The launch parameters themselves (the image, the first memory contents, the platform's behaviour, CB_MODE, the vector set, the collaborator)
stand in State, so that every claim about all states holds for each of their values. The one free value is here: what a platform that is no
flat RAM answers. -/

namespace Sys2Proof

/-- Parameter P4 (R221): what the extended opcodes beyond RLC do. -/
inductive CbMode where
  | stub
  | silicon
  deriving DecidableEq, Repr

/-- One access of the bus (R6, R60). -/
inductive BusAccess where
  | read (a : Word)
  | write (a : Word) (v : Byte)
  deriving DecidableEq, Repr

namespace Config

/-- What an oracle at the platform addresses answers to a read (parameter P3, R47, decision D14): a free value, nothing of which is known. Given
which oracle it is, the initial image, the accesses it has seen (the newest first), and the address read. -/
opaque platAnswer : Nat → List (Nat × Byte) → List BusAccess → Word → Byte

/-- What a byte that no cell lists reads as, in all three byte stores. DESIGN CHOICE (logs 1 and 2), unsafe: the spec gives no
contents. Any contents at all can be written as cells, so a claim about every state holds for every contents. -/
def blankByte : Byte := 0x00

/-- The size of a ROM bank (R7). -/
def romBankSize : Nat := 0x4000

/-- The size of a cartridge RAM bank (R7). -/
def ramBankSize : Nat := 0x2000

/-- The size of the cartridge RAM pool (R26). -/
def ramPoolSize : Nat := 0x8000

/-- The longest image (R24). -/
def maxRomLen : Nat := 0x200000

/-- The shortest image that can load (R24, decision D23). -/
def minRomLen : Nat := 0x200

/-- Where the image says its banking type (R21, R274). -/
def headerOffset : Nat := 0x147

/-- The length of the blank image of the state after reset. DESIGN CHOICE (log 2), unsafe: the image is a launch input. -/
def blankRomLen : Nat := 0x8000

/-- The default of parameter P4 (R221). -/
def defaultCbMode : CbMode := .stub

/-- The default of parameter P5 (R252). -/
def defaultVectors : List Word := [0x0040, 0x0048, 0x0050, 0x0058, 0x0060]

end Config

end Sys2Proof
end

