-- ==== Sys2Proof/Machine/State.lean ====
section
/-! DEFINITION. The state of the block as plain data (R11, R20), the reasons a step can stop (R240 to R244), and the state after reset (R30, R31). -/

namespace Sys2Proof.Machine

/-- A store of bytes: (offset, byte) pairs with rising offsets, none listing the byte an unlisted offset reads as (`Memory.wf` in Ops). -/
abbrev Memory := List Host.Cell

/-- Two bytes that are also one 16-bit value (R10). -/
structure RegisterPair where
  hi : Byte
  lo : Byte
  deriving DecidableEq, Repr

/-- The four flags (R13). -/
structure Flags where
  z : Bool
  n : Bool
  h : Bool
  c : Bool
  deriving DecidableEq, Repr

/-- The kinds of bank controller (R21). -/
inductive BankingType where
  | None
  | MBC1
  | MBC2
  deriving DecidableEq, Repr

/-- What happens next at the boundary between two steps: the CPU steps, or the interrupt collaborator makes one of its two moves
(R250 to R253, log 5). -/
inductive Turn where
  | cpu
  | wake
  | dispatch (v : Word)
  deriving DecidableEq, Repr

/-- The read/write behaviour of parameter P3 (R8, R47, decision D14): flat RAM, the default, or an oracle, by its number and the accesses it has
seen, the newest first (log 6). -/
inductive PlatBehaviour where
  | flatRam
  | oracle (seed : Nat) (seen : List BusAccess)
  deriving DecidableEq, Repr

/-- Everything the block holds, the launch parameters R8 names, and the model's own field `cost`. -/
structure State where
  /-- A and F (R12) -/
  af : RegisterPair
  /-- B and C (R12) -/
  bc : RegisterPair
  /-- D and E (R12) -/
  de : RegisterPair
  /-- H and L (R12) -/
  hl : RegisterPair
  /-- the stack pointer (R11) -/
  sp : RegisterPair
  /-- the program counter (R16) -/
  pc : Word
  /-- R17 -/
  halted : Bool
  /-- `interrupts_enabled` (R18) -/
  ime : Bool
  /-- R21 -/
  bankingType : BankingType
  /-- R22, decision D31 -/
  currentRomBank : BitVec 8
  /-- R23 -/
  currentRamBank : BitVec 2
  /-- R25 -/
  romBankingMode : Bool
  /-- R27 -/
  ramWriteEnabled : Bool
  /-- the image by ROM offset (R24, parameter P1) -/
  rom : Memory
  /-- the length of the image (R24) -/
  romLen : Nat
  /-- the cartridge RAM pool by pool offset (R26, parameter P2) -/
  ramBanks : Memory
  /-- platform memory by CPU address (R47, parameter P3): the initial image, and what a flat RAM holds now -/
  plat : Memory
  /-- how the platform answers reads and takes writes (R47, parameter P3) -/
  platBehaviour : PlatBehaviour
  /-- parameter P4 (R221), fixed at launch -/
  cbMode : CbMode
  /-- parameter P5 (R252), fixed at launch -/
  intVectors : List Word
  /-- parameter P6 (R250): no collaborator, or one and the turns it has chosen, the next first (log 5) -/
  intAgent : Option (List Turn)
  /-- the model's own: the cycle cost the last CPU step returned (R94, R283, log 7) -/
  cost : Nat
  deriving DecidableEq, Repr

/-- The fatal aborts (R240): the machine stops and nothing is left of it. Each is the spec's own, so stopping is safe. -/
inductive Fault where
  /-- an opcode byte with no table entry, and where it was fetched (R241); raised by `unassigned`; safe -/
  | undefinedOpcode (value : Byte) (address : Word)
  /-- named by the document; raised by nothing, every extended value being assigned (R242, log 16); safe -/
  | undefinedExtendedOpcode (value : Byte) (address : Word)
  /-- a bus read at a ROM offset beyond the image (R244); raised by any fetch and any instruction that reads memory; safe -/
  | romIndexOutOfRange (offset : Nat)
  /-- the ROM file cannot be read (R243); raised by `load`; safe -/
  | romUnreadable
  /-- the image's length is no legal one (R243); raised by `load`; safe -/
  | romSizeInvalid (len : Nat)
  /-- the header names no known banking type (R243); raised by `load`; safe -/
  | unsupportedBankingType (value : Byte)
  deriving DecidableEq, Repr

/-- Why the model gives no next state where the hardware has one. -/
inductive Refusal where
  /-- an instruction without a meaning; raised by no arm of this model; safe -/
  | notModelled (mnemonic : String)
  deriving DecidableEq, Repr

/-- The outcome of a step of this machine. -/
abbrev Result := Host.Outcome State Fault Refusal

/-- The state after reset: the constants of R30, and R31 for the blank image of log 2 (whose header byte 0x00 gives the banking type None),
with no byte of RAM or platform memory listed (log 1) and the launch parameters at their defaults (logs 4, 5 and 6). -/
def State.reset : State :=
  { af := ⟨0x01, 0xB0⟩
    bc := ⟨0x00, 0x13⟩
    de := ⟨0x00, 0xD8⟩
    hl := ⟨0x01, 0x4D⟩
    sp := ⟨0xFF, 0xFE⟩
    pc := 0x0100
    halted := false
    ime := false
    bankingType := .None
    currentRomBank := 1
    currentRamBank := 0
    romBankingMode := true
    ramWriteEnabled := false
    rom := []
    romLen := Config.blankRomLen
    ramBanks := []
    plat := []
    platBehaviour := .flatRam
    cbMode := Config.defaultCbMode
    intVectors := Config.defaultVectors
    intAgent := none
    cost := 0 }

end Sys2Proof.Machine
end

