-- ==== Sys2Proof/Machine/Ops.lean ====
section
/-! DEFINITION. The named operations over registers and memory: the byte stores, the register pair, the address multiplexer and the bank
controller (20_memory.md), the access primitives and the stack (R63, R100, R101), fetch (R81), and the two moves of the interrupt collaborator (R251, R252). -/

namespace Sys2Proof.Machine

/-! ### Byte stores -/

/-- The byte at an offset: the listed one, else the blank byte. On `rom` and `ramBanks` these are the raw accessors `get_rom` and `get_ram` (R56). -/
def Memory.read : Memory → Nat → Byte
  | [], _ => Config.blankByte
  | (b, w) :: m, a => if b = a then w else Memory.read m a

/-- Store a byte at an offset, keeping the canonical form: the blank byte is not listed. On `ramBanks` this is `set_ram`, which tests no gate (R56). -/
def Memory.write : Memory → Nat → Byte → Memory
  | [], a, v => if v = Config.blankByte then [] else [(a, v)]
  | (b, w) :: m, a, v =>
    if a < b then (if v = Config.blankByte then (b, w) :: m else (a, v) :: (b, w) :: m)
    else if a = b then (if v = Config.blankByte then m else (a, v) :: m)
    else (b, w) :: Memory.write m a v

/-- Offsets strictly rising from `lo` on, no blank byte listed. -/
def Memory.wfFrom : Nat → Memory → Bool
  | _, [] => true
  | lo, (a, v) :: m => decide (lo ≤ a) && decide (v ≠ Config.blankByte) && Memory.wfFrom (a + 1) m

/-- The canonical form: strictly rising offsets, and no cell equal to what an unlisted offset reads as. -/
def Memory.wf (m : Memory) : Bool := Memory.wfFrom 0 m

/-! ### The register pair and the registers by name -/

/-- The combined value (R10). -/
def RegisterPair.value (p : RegisterPair) : Word := joinBytes p.hi p.lo

/-- The pair that holds a combined value (R10). -/
def RegisterPair.ofWord (w : Word) : RegisterPair := ⟨hi8 w, lo8 w⟩

/-- Read an 8-bit register (R12). -/
def State.getR8 (s : State) : Reg8 → Byte
  | .B => s.bc.hi
  | .C => s.bc.lo
  | .D => s.de.hi
  | .E => s.de.lo
  | .H => s.hl.hi
  | .L => s.hl.lo
  | .A => s.af.hi

/-- Write an 8-bit register (R12). -/
def State.setR8 (s : State) : Reg8 → Byte → State
  | .B, v => { s with bc := ⟨v, s.bc.lo⟩ }
  | .C, v => { s with bc := ⟨s.bc.hi, v⟩ }
  | .D, v => { s with de := ⟨v, s.de.lo⟩ }
  | .E, v => { s with de := ⟨s.de.hi, v⟩ }
  | .H, v => { s with hl := ⟨v, s.hl.lo⟩ }
  | .L, v => { s with hl := ⟨s.hl.hi, v⟩ }
  | .A, v => { s with af := ⟨v, s.af.lo⟩ }

/-- Read a pair of `r16` (R9, R84). -/
def State.getR16 (s : State) : Reg16 → Word
  | .BC => s.bc.value
  | .DE => s.de.value
  | .HL => s.hl.value
  | .SP => s.sp.value

/-- Write a pair of `r16` (R9, R84). -/
def State.setR16 (s : State) : Reg16 → Word → State
  | .BC, v => { s with bc := .ofWord v }
  | .DE, v => { s with de := .ofWord v }
  | .HL, v => { s with hl := .ofWord v }
  | .SP, v => { s with sp := .ofWord v }

/-- Read a pair of `r16s` (R9, R84). -/
def State.getR16s (s : State) : Reg16s → Word
  | .BC => s.bc.value
  | .DE => s.de.value
  | .HL => s.hl.value
  | .AF => s.af.value

/-- Write the program counter (R16). -/
def State.setPc (s : State) (v : Word) : State := { s with pc := v }

/-- Write `interrupts_enabled` (R18). -/
def State.setIme (s : State) (v : Bool) : State := { s with ime := v }

/-- Write `halted` (R17). -/
def State.setHalted (s : State) (v : Bool) : State := { s with halted := v }

/-- Record the cost a CPU step returns (R94). -/
def State.setCost (s : State) (v : Nat) : State := { s with cost := v }

/-! ### Reading the bus -/

/-- `RomAt` (R48). -/
def romAt (s : State) (off : Nat) : Except Fault Byte :=
  if off < s.romLen then .ok (s.rom.read off) else .error (.romIndexOutOfRange off)

/-- The ROM offset of an address in the switchable window (R41, R44). -/
def romWindowOffset (s : State) (a : Word) : Nat :=
  s.currentRomBank.toNat * Config.romBankSize + (a.toNat - 0x4000)

/-- The pool offset of an address in the cartridge RAM window (R41, R45). -/
def ramOffset (s : State) (a : Word) : Nat :=
  s.currentRamBank.toNat * Config.ramBankSize + (a.toNat - 0xA000)

/-- The platform region (R47). -/
def inPlatform (a : Nat) : Bool :=
  (decide (0x8000 ≤ a) && decide (a < 0xA000)) || (decide (0xC000 ≤ a) && decide (a < 0x10000))

/-- The address of an access. -/
def busAddress : BusAccess → Word
  | .read a => a
  | .write a _ => a

/-- The platform after an access of the bus: flat RAM keeps no record, an oracle sees what reaches the platform region (R47, log 6). -/
def PlatBehaviour.note : PlatBehaviour → BusAccess → PlatBehaviour
  | .flatRam, _ => .flatRam
  | .oracle seed seen, x => if inPlatform (busAddress x).toNat then .oracle seed (x :: seen) else .oracle seed seen

/-- `plat.read(a)` (R47): the byte of a flat RAM, or what an oracle answers. -/
def platRead (s : State) (a : Word) : Byte :=
  match s.platBehaviour with
  | .flatRam => s.plat.read a.toNat
  | .oracle seed seen => Config.platAnswer seed s.plat seen a

/-- The byte `BusRead` gives (R41). The state after the read is `State.noteRead`. -/
def busRead (s : State) (a : Word) : Except Fault Byte :=
  if a.toNat < 0x4000 then romAt s a.toNat
  else if a.toNat < 0x8000 then romAt s (romWindowOffset s a)
  else if a.toNat < 0xA000 then .ok (platRead s a)
  else if a.toNat < 0xC000 then .ok (s.ramBanks.read (ramOffset s a))
  else .ok (platRead s a)

/-- The state after a bus read: nothing changes but what an oracle has seen (R47, R59). -/
def State.noteRead (s : State) (a : Word) : State := { s with platBehaviour := s.platBehaviour.note (.read a) }

/-- `BusRead` whole (R41): the byte, and the state after the read. -/
def readByte (s : State) (a : Word) : Except Fault (Byte × State) :=
  match busRead s a with
  | .error f => .error f
  | .ok v => .ok (v, s.noteRead a)

/-! ### The bank controller -/

/-- `Bump` (R55): bank 0 becomes bank 1. -/
def bumped (bank : BitVec 8) : BitVec 8 := if bank = 0 then 1 else bank

/-- `RamToggle` (R50). -/
def ramToggle (s : State) (a : Word) (v : Byte) : State :=
  if s.bankingType = .MBC2 ∧ a.getLsbD 3 = true then s
  else if v.extractLsb' 0 4 = 0xA then { s with ramWriteEnabled := true }
  else if v.extractLsb' 0 4 = 0x0 then { s with ramWriteEnabled := false }
  else s

/-- `RomBankLow` (R51). -/
def romBankLow (s : State) (v : Byte) : State :=
  match s.bankingType with
  | .None => s
  | .MBC1 => { s with currentRomBank := bumped (s.currentRomBank.extractLsb' 5 3 ++ v.extractLsb' 0 5) }
  | .MBC2 => { s with currentRomBank := bumped ((v.extractLsb' 0 4).setWidth 8) }

/-- `UpperOrRam` (R52), MBC1 only. -/
def upperOrRam (s : State) (v : Byte) : State :=
  if s.romBankingMode then
    { s with currentRomBank := bumped (v.extractLsb' 5 3 ++ s.currentRomBank.extractLsb' 0 5) }
  else { s with currentRamBank := v.extractLsb' 0 2 }

/-- `ModeSelect` (R53), MBC1 only. -/
def modeSelect (s : State) (v : Byte) : State :=
  if v.getLsbD 0 then { s with romBankingMode := false }
  else { s with romBankingMode := true, currentRamBank := 0 }

/-- `manage_banking` (R49, R54): the effect of a write below 0x8000. -/
def manageBanking (s : State) (a : Word) (v : Byte) : State :=
  if s.bankingType = .None then s
  else if a.toNat < 0x2000 then ramToggle s a v
  else if a.toNat < 0x4000 then romBankLow s v
  else if a.toNat < 0x6000 then (if s.bankingType = .MBC1 then upperOrRam s v else s)
  else (if s.bankingType = .MBC1 then modeSelect s v else s)

/-! ### Writing the bus -/

/-- `plat.write(a, v)` (R47): a flat RAM holds the byte; an oracle sees the write, and the initial image stays. -/
def platWrite (s : State) (a : Word) (v : Byte) : State :=
  { s with
    plat := (match s.platBehaviour with
      | .flatRam => s.plat.write a.toNat v
      | .oracle _ _ => s.plat)
    platBehaviour := s.platBehaviour.note (.write a v) }

/-- `BusWrite` (R42, R46). -/
def busWrite (s : State) (a : Word) (v : Byte) : State :=
  if a.toNat < 0x8000 then manageBanking s a v
  else if a.toNat < 0xA000 then platWrite s a v
  else if a.toNat < 0xC000 then
    (if s.ramWriteEnabled then { s with ramBanks := s.ramBanks.write (ramOffset s a) v } else s)
  else platWrite s a v

/-- `MemRead(addr, 2)` (R63): the low byte first. -/
def memRead16 (s : State) (a : Word) : Except Fault (Word × State) :=
  match readByte s a with
  | .error f => .error f
  | .ok (lo, s1) =>
    match readByte s1 (a + 1) with
    | .error f => .error f
    | .ok (hi, s2) => .ok (joinBytes hi lo, s2)

/-- `MemWrite(addr, 2, v)` (R63): the low byte first. -/
def memWrite16 (s : State) (a : Word) (v : Word) : State :=
  busWrite (busWrite s a (lo8 v)) (a + 1) (hi8 v)

/-! ### The stack -/

/-- Write the stack pointer. -/
def State.setSp (s : State) (v : Word) : State := { s with sp := .ofWord v }

/-- `Push16` (R100): the high byte at SP - 1, then the low byte at SP - 2. -/
def push16 (s : State) (v : Word) : State :=
  let s1 := s.setSp (s.sp.value - 1)
  let s2 := busWrite s1 s1.sp.value (hi8 v)
  let s3 := s2.setSp (s2.sp.value - 1)
  busWrite s3 s3.sp.value (lo8 v)

/-- `Pop16` (R101): the low byte at SP, then the high byte at SP + 1. -/
def pop16 (s : State) : Except Fault (Word × State) :=
  match readByte s s.sp.value with
  | .error f => .error f
  | .ok (lo, s1) =>
    let s2 := s1.setSp (s1.sp.value + 1)
    match readByte s2 s2.sp.value with
    | .error f => .error f
    | .ok (hi, s3) => .ok (joinBytes hi lo, s3.setSp (s3.sp.value + 1))

/-! ### Fetch -/

/-- `Fetch8` (R81): the byte at PC, and PC advanced by 1. -/
def fetch8 (s : State) : Except Fault (Byte × State) :=
  match readByte s s.pc with
  | .error f => .error f
  | .ok (b, s1) => .ok (b, s1.setPc (s1.pc + 1))

/-- Fetch a whole instruction: the opcode byte, then as many operand bytes as its format has, in address order, PC past them all before the
operation runs (R81, R82, R88, R92, log 9). -/
def fetchInstr (s : State) : Except Fault (Instr × State) :=
  match fetch8 s with
  | .error f => .error f
  | .ok (op, s1) =>
    match opLength op with
    | 1 => .ok (decodeOp op 0 0, s1)
    | 2 =>
      match fetch8 s1 with
      | .error f => .error f
      | .ok (b1, s2) => .ok (decodeOp op b1 0, s2)
    | _ =>
      match fetch8 s1 with
      | .error f => .error f
      | .ok (b1, s2) =>
        match fetch8 s2 with
        | .error f => .error f
        | .ok (b2, s3) => .ok (decodeOp op b1 b2, s3)

/-! ### Ends of a step -/

/-- The step completes and returns its cost (R94). -/
def finish (cycles : Nat) (s : State) : Result := .next (s.setCost cycles)

/-- Go on with the byte a bus read gives and the state after it, or stop with its abort (R244, R246). -/
def withByte (s : State) (a : Word) (k : Byte → State → Result) : Result :=
  match readByte s a with
  | .ok (v, s') => k v s'
  | .error f => .fault f

/-- Go on with the word a pop gives and the state after it, or stop with its abort (R244, R246). -/
def withPop (s : State) (k : Word → State → Result) : Result :=
  match pop16 s with
  | .ok (v, s') => k v s'
  | .error f => .fault f

/-- The abort of an opcode value with no table entry, PC being one past it (R90, R241). -/
def raiseUndefinedOpcode (s : State) (op : Byte) : Result := .fault (.undefinedOpcode op (s.pc - 1))

/-- The halted stall (R80, R285): cost 4, nothing else. -/
def stall (s : State) : Result := finish 4 s

/-! ### The interrupt collaborator -/

/-- Move `Wake` (R251). -/
def wake (s : State) : State := s.setHalted false

/-- Move `Dispatch(v)` (R252, R254): taking an interrupt. It is the collaborator's only when IME is set and `v` is a vector; a move it may not
make changes nothing. -/
def dispatch (v : Word) (s : State) : State :=
  if s.ime = true ∧ v ∈ s.intVectors then
    ((push16 (s.setHalted false) s.pc).setPc v).setIme false
  else s

/-- The turn that comes next, and the state with that turn used up; without a collaborator, or with none of its turns left, it is the CPU's
(R250, log 5). -/
def takeTurn (s : State) : Turn × State :=
  match s.intAgent with
  | some (t :: ts) => (t, { s with intAgent := some ts })
  | some [] => (.cpu, s)
  | none => (.cpu, s)

/-! ### Placing a program from outside -/

/-- The least length among 0x200000 and 0x400000 that reaches a ROM offset the image does not. -/
def romLenReaching (len off : Nat) : Nat :=
  if off < len then len else if off < Config.maxRomLen then Config.maxRomLen else 2 * Config.maxRomLen

/-- Put a byte where a bus read of the address finds it: into the image, the RAM pool or platform memory, which is a flat RAM from then on. The
host's act, no write of the machine (log 12). -/
def placeByte (s : State) (a : Word) (v : Byte) : State :=
  if a.toNat < 0x4000 then
    { s with rom := s.rom.write a.toNat v, romLen := romLenReaching s.romLen a.toNat }
  else if a.toNat < 0x8000 then
    { s with rom := s.rom.write (romWindowOffset s a) v, romLen := romLenReaching s.romLen (romWindowOffset s a) }
  else if a.toNat < 0xA000 then { s with plat := s.plat.write a.toNat v, platBehaviour := .flatRam }
  else if a.toNat < 0xC000 then { s with ramBanks := s.ramBanks.write (ramOffset s a) v }
  else { s with plat := s.plat.write a.toNat v, platBehaviour := .flatRam }

/-- Put bytes at rising addresses. -/
def placeBytes (s : State) (a : Word) : List Byte → State
  | [] => s
  | b :: bs => placeBytes (placeByte s a b) (a + 1) bs

/-- The turns from the next one of the CPU on. -/
def fromNextCpuTurn : List Turn → List Turn
  | [] => []
  | .cpu :: ts => .cpu :: ts
  | .wake :: ts => fromNextCpuTurn ts
  | .dispatch _ :: ts => fromNextCpuTurn ts

/-- Nothing stands before the next fetch: not halted, and no move of the collaborator first (log 12). -/
def readyToFetch (s : State) : State :=
  { s with halted := false, intAgent := s.intAgent.map fromNextCpuTurn }

end Sys2Proof.Machine
end

