-- ==== Sys2Proof/Machine/Flags.lean ====
section
/-! DEFINITION. The flags (R13, R9) and every flag and result computation of the spec: the table of 44_alu.md, INC and DEC (42_incdec.md), the
rotates (R200), the shifts, the additions to SP, DAA and BIT. -/

namespace Sys2Proof.Machine

/-- The byte `z ++ n ++ h ++ c ++ 0b0000` (R9, R13, R14). -/
def Flags.byte (f : Flags) : Byte :=
  BitVec.ofBool f.z ++ BitVec.ofBool f.n ++ BitVec.ofBool f.h ++ BitVec.ofBool f.c ++ (0 : BitVec 4)

/-- `SetFlags` (R9). -/
def State.setFlags (s : State) (f : Flags) : State := { s with af := ⟨s.af.hi, f.byte⟩ }

/-- `fZ` (R13). -/
def State.fZ (s : State) : Bool := s.af.lo.getLsbD 7

/-- `fN` (R13). -/
def State.fN (s : State) : Bool := s.af.lo.getLsbD 6

/-- `fH` (R13). -/
def State.fH (s : State) : Bool := s.af.lo.getLsbD 5

/-- `fC` (R13). -/
def State.fC (s : State) : Bool := s.af.lo.getLsbD 4

/-- The low nibble of a byte, as a number. -/
def lowNibble (v : Byte) : Nat := v.toNat % 0x10

/-- The carry as a number. -/
def carryIn (c : Bool) : Nat := if c then 1 else 0

/-- `ADD A,src` (R181). -/
def addFlags (a s : Byte) : Flags :=
  { z := decide (a + s = 0)
    n := false
    h := decide (lowNibble a + lowNibble s > 0xF)
    c := decide (a.toNat + s.toNat > 0xFF) }

/-- The result of `ADC A,src` (R182). -/
def adcResult (a s : Byte) (cin : Bool) : Byte := BitVec.ofNat 8 (a.toNat + s.toNat + carryIn cin)

/-- `ADC A,src` (R182). -/
def adcFlags (a s : Byte) (cin : Bool) : Flags :=
  { z := decide (adcResult a s cin = 0)
    n := false
    h := decide (lowNibble a + lowNibble s + carryIn cin > 0xF)
    c := decide (a.toNat + s.toNat + carryIn cin > 0xFF) }

/-- `SUB src` and `CP src` (R183, R188): the half-carry compares with the result's nibble. -/
def subFlags (a s : Byte) : Flags :=
  { z := decide (a - s = 0)
    n := true
    h := decide (lowNibble a < lowNibble (a - s))
    c := decide (s.toNat > a.toNat) }

/-- The result of `SBC A,src` (R184). -/
def sbcResult (a s : Byte) (cin : Bool) : Byte := a - s - BitVec.ofNat 8 (carryIn cin)

/-- `SBC A,src` (R184). -/
def sbcFlags (a s : Byte) (cin : Bool) : Flags :=
  { z := decide (sbcResult a s cin = 0)
    n := true
    h := decide (lowNibble a < lowNibble (sbcResult a s cin) + carryIn cin)
    c := decide (a.toNat < s.toNat + carryIn cin) }

/-- `AND src` (R185), from the result. -/
def andFlags (res : Byte) : Flags := { z := decide (res = 0), n := false, h := true, c := false }

/-- `XOR src`, `OR src` (R186, R187), from the result. -/
def orFlags (res : Byte) : Flags := { z := decide (res = 0), n := false, h := false, c := false }

/-- `INC` of a byte (R150), the carry kept. -/
def incFlags (v : Byte) (carry : Bool) : Flags :=
  { z := decide (v + 1 = 0), n := false, h := decide (lowNibble v = 0xF), c := carry }

/-- `DEC` of a byte (R152), the carry kept. -/
def decFlags (v : Byte) (carry : Bool) : Flags :=
  { z := decide (v - 1 = 0), n := true, h := decide (lowNibble v = 0x0), c := carry }

/-- `ADD HL,rr` (R189), the zero flag kept. -/
def addHLFlags (hl s : Word) (zero : Bool) : Flags :=
  { z := zero
    n := false
    h := decide (hl.toNat % 0x1000 + s.toNat % 0x1000 > 0xFFF)
    c := decide (hl.toNat + s.toNat > 0xFFFF) }

/-- `LD HL,SP+e8` and `ADD SP,e8` (R105, R190): the carries of adding the unsigned byte to the low byte of SP. -/
def addSPFlags (sp : Word) (e : Byte) : Flags :=
  { z := false
    n := false
    h := decide (lowNibble (lo8 sp) + lowNibble e > 0xF)
    c := decide ((lo8 sp).toNat + e.toNat > 0xFF) }

/-- A result and the bit that left it. -/
abbrev Rotated := Byte × Bool

/-- `RLC8` (R200). -/
def rlc8 (v : Byte) : Rotated := (v.extractLsb' 0 7 ++ v.extractLsb' 7 1, v.getLsbD 7)

/-- `RL8` (R200). -/
def rl8 (v : Byte) (cin : Bool) : Rotated := (v.extractLsb' 0 7 ++ BitVec.ofBool cin, v.getLsbD 7)

/-- `RRC8` (R200). -/
def rrc8 (v : Byte) : Rotated := (v.extractLsb' 0 1 ++ v.extractLsb' 1 7, v.getLsbD 0)

/-- `RR8` (R200). -/
def rr8 (v : Byte) (cin : Bool) : Rotated := (BitVec.ofBool cin ++ v.extractLsb' 1 7, v.getLsbD 0)

/-- `SLA` (R227). -/
def sla8 (v : Byte) : Rotated := (v.extractLsb' 0 7 ++ (0 : BitVec 1), v.getLsbD 7)

/-- `SRA` (R228). -/
def sra8 (v : Byte) : Rotated := (v.extractLsb' 7 1 ++ v.extractLsb' 1 7, v.getLsbD 0)

/-- `SWAP` (R229): no bit leaves, the carry is cleared. -/
def swap8 (v : Byte) : Rotated := (v.extractLsb' 0 4 ++ v.extractLsb' 4 4, false)

/-- `SRL` (R230). -/
def srl8 (v : Byte) : Rotated := ((0 : BitVec 1) ++ v.extractLsb' 1 7, v.getLsbD 0)

/-- The operation of extended group 0 on a value and the carry (R220, R223 to R230). -/
def rotate : RotOp → Byte → Bool → Rotated
  | .RLC, v, _ => rlc8 v
  | .RRC, v, _ => rrc8 v
  | .RL, v, cin => rl8 v cin
  | .RR, v, cin => rr8 v cin
  | .SLA, v, _ => sla8 v
  | .SRA, v, _ => sra8 v
  | .SWAP, v, _ => swap8 v
  | .SRL, v, _ => srl8 v

/-- The flags of every rotate, shift and swap (R200, R223 to R230). -/
def rotFlags (r : Rotated) : Flags := { z := decide (r.1 = 0), n := false, h := false, c := r.2 }

/-- `BIT b` (R231), the carry kept. -/
def bitFlags (v : Byte) (b : Nat) (carry : Bool) : Flags := { z := !v.getLsbD b, n := false, h := true, c := carry }

/-- `v & ~(1 << b)` (R232). -/
def resBit (v : Byte) (b : Nat) : Byte := v &&& ~~~((1 : Byte) <<< b)

/-- `v | (1 << b)` (R233). -/
def setBit (v : Byte) (b : Nat) : Byte := v ||| ((1 : Byte) <<< b)

/-- Whether `DAA` adjusts the low digit (R191). -/
def daaLow (a : Byte) (f : Flags) : Bool := f.h || (!f.n && decide (lowNibble a > 0x9))

/-- Whether `DAA` adjusts the high digit (R191). -/
def daaHigh (a : Byte) (f : Flags) : Bool := f.c || (!f.n && decide (a.toNat > 0x99))

/-- The adjustment of `DAA` (R191). -/
def daaAdjust (a : Byte) (f : Flags) : Byte :=
  (if daaLow a f then 0x06 else 0x00) ||| (if daaHigh a f then 0x60 else 0x00)

/-- The result of `DAA` (R191). -/
def daaResult (a : Byte) (f : Flags) : Byte := if f.n then a - daaAdjust a f else a + daaAdjust a f

/-- The flags of `DAA` (R191): N kept, H cleared, C set by a high adjustment after an addition and otherwise kept. -/
def daaFlags (a : Byte) (f : Flags) : Flags :=
  { z := decide (daaResult a f = 0), n := f.n, h := false, c := if f.n then f.c else daaHigh a f }

/-- The four flags of F. -/
def State.flags (s : State) : Flags := { z := s.fZ, n := s.fN, h := s.fH, c := s.fC }

end Sys2Proof.Machine
end

