-- ==== Sys2Proof/Machine/Operands.lean ====
section
/-! DEFINITION. The operand forms: conditions (R160), the operand of field `r` (R83, R220), the source of an accumulator operation (R180), and the
addresses an instruction forms (R88, R133 to R136). -/

namespace Sys2Proof.Machine

/-- `Cond` (R160). -/
def State.cond (s : State) : Cond → Bool
  | .NZ => !s.fZ
  | .Z => s.fZ
  | .NC => !s.fC
  | .C => s.fC

/-- The address `0xFF00 + zext_16(n)` (R88, R133, R135). -/
def highPage (n : Byte) : Word := 0xFF00 + zext16 n

/-- `GetOp` (R220): a register, or the byte at HL, and the state after it is read. -/
def withOperand (s : State) (o : Operand8) (k : Byte → State → Result) : Result :=
  match o with
  | .reg r => k (s.getR8 r) s
  | .atHL => withByte s s.hl.value k

/-- `PutOp` (R220). -/
def putOperand (s : State) (o : Operand8) (v : Byte) : State :=
  match o with
  | .reg r => s.setR8 r v
  | .atHL => busWrite s s.hl.value v

/-- The cost of an extended opcode (R220): 16 through (HL), else 8. -/
def extendedCost : Operand8 → Nat
  | .reg _ => 8
  | .atHL => 16

/-- The source of an accumulator operation (R180), and the state after it is read. -/
def withSource (s : State) (src : AluSrc) (k : Byte → State → Result) : Result :=
  match src with
  | .reg r => k (s.getR8 r) s
  | .atHL => withByte s s.hl.value k
  | .imm d8 => k d8 s

/-- The cost of an accumulator operation (R180): 4 for a register, else 8. -/
def aluCost : AluSrc → Nat
  | .reg _ => 4
  | .atHL => 8
  | .imm _ => 8

/-- The address of a relative jump's target, PC being past the displacement byte (R161). -/
def relativeTarget (s : State) (e8 : Byte) : Word := s.pc + sext16 e8

end Sys2Proof.Machine
end

