-- ==== Sys2Proof/Machine/Load16.lean ====
section
/-! DEFINITION. 16-bit loads and the stack (40_loads16_stack.md). -/

namespace Sys2Proof.Machine

/-- Load a pair with a value. -/
def loadPair (p : Reg16) (v : Word) (cycles : Nat) (s : State) : Result := finish cycles (s.setR16 p v)

/-- Load a pair with SP plus a displacement, with the flags of R105 (also R190). -/
def loadPairFromSP (p : Reg16) (e8 : Byte) (cycles : Nat) (s : State) : Result :=
  finish cycles ((s.setR16 p (s.sp.value + sext16 e8)).setFlags (addSPFlags s.sp.value e8))

/-- `PUSH` (R106). -/
def pushPair (p : Reg16s) (s : State) : Result := finish 16 (push16 s (s.getR16s p))

/-- `POP` of BC, DE or HL (R107). -/
def popPair (p : Reg16) (s : State) : Result := withPop s fun v s1 => finish 12 (s1.setR16 p v)

/-- `POP AF` (R108): the low nibble of the popped F is dropped. -/
def popAF (s : State) : Result :=
  withPop s fun v s1 => finish 12 { s1 with af := ⟨hi8 v, v.extractLsb' 4 4 ++ (0 : BitVec 4)⟩ }

/-- `LD BC,d16`, 0x01 (R102). -/
def execLd_BC_d16 (d16 : Word) (s : State) : Result := loadPair .BC d16 12 s

/-- `LD (a16),SP`, 0x08 (R103). -/
def execLd_atA16_SP (a16 : Word) (s : State) : Result := finish 20 (memWrite16 s a16 s.sp.value)

/-- `LD DE,d16`, 0x11 (R102). -/
def execLd_DE_d16 (d16 : Word) (s : State) : Result := loadPair .DE d16 12 s

/-- `LD HL,d16`, 0x21 (R102). -/
def execLd_HL_d16 (d16 : Word) (s : State) : Result := loadPair .HL d16 12 s

/-- `LD SP,d16`, 0x31 (R102). -/
def execLd_SP_d16 (d16 : Word) (s : State) : Result := loadPair .SP d16 12 s

/-- `POP BC`, 0xC1 (R107). -/
def execPop_BC (s : State) : Result := popPair .BC s

/-- `PUSH BC`, 0xC5 (R106). -/
def execPush_BC (s : State) : Result := pushPair .BC s

/-- `POP DE`, 0xD1 (R107). -/
def execPop_DE (s : State) : Result := popPair .DE s

/-- `PUSH DE`, 0xD5 (R106). -/
def execPush_DE (s : State) : Result := pushPair .DE s

/-- `POP HL`, 0xE1 (R107). -/
def execPop_HL (s : State) : Result := popPair .HL s

/-- `PUSH HL`, 0xE5 (R106). -/
def execPush_HL (s : State) : Result := pushPair .HL s

/-- `POP AF`, 0xF1 (R108). -/
def execPop_AF (s : State) : Result := popAF s

/-- `PUSH AF`, 0xF5 (R106). -/
def execPush_AF (s : State) : Result := pushPair .AF s

/-- `LD HL,SP+e8`, 0xF8 (R105). -/
def execLd_HL_SPe8 (e8 : Byte) (s : State) : Result := loadPairFromSP .HL e8 12 s

/-- `LD SP,HL`, 0xF9 (R104). -/
def execLd_SP_HL (s : State) : Result := loadPair .SP s.hl.value 8 s

end Sys2Proof.Machine
end

