-- ==== Sys2Proof/Machine/Alu.lean ====
section
/-! DEFINITION. Arithmetic and logic (44_alu.md). -/

namespace Sys2Proof.Machine

/-- The effect of an accumulator operation on a source value (R181 to R188); `CP` leaves A. -/
def applyAlu (op : AluOp) (v : Byte) (s : State) : State :=
  match op with
  | .ADD => (s.setR8 .A (s.getR8 .A + v)).setFlags (addFlags (s.getR8 .A) v)
  | .ADC => (s.setR8 .A (adcResult (s.getR8 .A) v s.fC)).setFlags (adcFlags (s.getR8 .A) v s.fC)
  | .SUB => (s.setR8 .A (s.getR8 .A - v)).setFlags (subFlags (s.getR8 .A) v)
  | .SBC => (s.setR8 .A (sbcResult (s.getR8 .A) v s.fC)).setFlags (sbcFlags (s.getR8 .A) v s.fC)
  | .AND => (s.setR8 .A (s.getR8 .A &&& v)).setFlags (andFlags (s.getR8 .A &&& v))
  | .XOR => (s.setR8 .A (s.getR8 .A ^^^ v)).setFlags (orFlags (s.getR8 .A ^^^ v))
  | .OR => (s.setR8 .A (s.getR8 .A ||| v)).setFlags (orFlags (s.getR8 .A ||| v))
  | .CP => s.setFlags (subFlags (s.getR8 .A) v)

/-- An accumulator operation on its source (R180). -/
def accumulate (op : AluOp) (src : AluSrc) (s : State) : Result :=
  withSource s src fun v s1 => finish (aluCost src) (applyAlu op v s1)

/-- `ADD HL,rr` (R189). -/
def addToHL (p : Reg16) (s : State) : Result :=
  finish 8 ((s.setR16 .HL (s.hl.value + s.getR16 p)).setFlags (addHLFlags s.hl.value (s.getR16 p) s.fZ))

/-- `ADD HL,BC`, 0x09 (R189). -/
def execAdd_HL_BC (s : State) : Result := addToHL .BC s

/-- `ADD HL,DE`, 0x19 (R189). -/
def execAdd_HL_DE (s : State) : Result := addToHL .DE s

/-- `DAA`, 0x27 (R191). -/
def execDaa (s : State) : Result := finish 4 ((s.setR8 .A (daaResult (s.getR8 .A) s.flags)).setFlags (daaFlags (s.getR8 .A) s.flags))

/-- `ADD HL,HL`, 0x29 (R189). -/
def execAdd_HL_HL (s : State) : Result := addToHL .HL s

/-- `ADD HL,SP`, 0x39 (R189). -/
def execAdd_HL_SP (s : State) : Result := addToHL .SP s

/-- `ADD A,B`, 0x80 (R181). -/
def execAdd_A_B (s : State) : Result := accumulate .ADD (.reg .B) s

/-- `ADD A,C`, 0x81 (R181). -/
def execAdd_A_C (s : State) : Result := accumulate .ADD (.reg .C) s

/-- `ADD A,D`, 0x82 (R181). -/
def execAdd_A_D (s : State) : Result := accumulate .ADD (.reg .D) s

/-- `ADD A,E`, 0x83 (R181). -/
def execAdd_A_E (s : State) : Result := accumulate .ADD (.reg .E) s

/-- `ADD A,H`, 0x84 (R181). -/
def execAdd_A_H (s : State) : Result := accumulate .ADD (.reg .H) s

/-- `ADD A,L`, 0x85 (R181). -/
def execAdd_A_L (s : State) : Result := accumulate .ADD (.reg .L) s

/-- `ADD A,(HL)`, 0x86 (R181). -/
def execAdd_A_atHL (s : State) : Result := accumulate .ADD .atHL s

/-- `ADD A,A`, 0x87 (R181). -/
def execAdd_A_A (s : State) : Result := accumulate .ADD (.reg .A) s

/-- `ADC A,B`, 0x88 (R182). -/
def execAdc_A_B (s : State) : Result := accumulate .ADC (.reg .B) s

/-- `ADC A,C`, 0x89 (R182). -/
def execAdc_A_C (s : State) : Result := accumulate .ADC (.reg .C) s

/-- `ADC A,D`, 0x8A (R182). -/
def execAdc_A_D (s : State) : Result := accumulate .ADC (.reg .D) s

/-- `ADC A,E`, 0x8B (R182). -/
def execAdc_A_E (s : State) : Result := accumulate .ADC (.reg .E) s

/-- `ADC A,H`, 0x8C (R182). -/
def execAdc_A_H (s : State) : Result := accumulate .ADC (.reg .H) s

/-- `ADC A,L`, 0x8D (R182). -/
def execAdc_A_L (s : State) : Result := accumulate .ADC (.reg .L) s

/-- `ADC A,(HL)`, 0x8E (R182). -/
def execAdc_A_atHL (s : State) : Result := accumulate .ADC .atHL s

/-- `ADC A,A`, 0x8F (R182). -/
def execAdc_A_A (s : State) : Result := accumulate .ADC (.reg .A) s

/-- `SUB B`, 0x90 (R183). -/
def execSub_B (s : State) : Result := accumulate .SUB (.reg .B) s

/-- `SUB C`, 0x91 (R183). -/
def execSub_C (s : State) : Result := accumulate .SUB (.reg .C) s

/-- `SUB D`, 0x92 (R183). -/
def execSub_D (s : State) : Result := accumulate .SUB (.reg .D) s

/-- `SUB E`, 0x93 (R183). -/
def execSub_E (s : State) : Result := accumulate .SUB (.reg .E) s

/-- `SUB H`, 0x94 (R183). -/
def execSub_H (s : State) : Result := accumulate .SUB (.reg .H) s

/-- `SUB L`, 0x95 (R183). -/
def execSub_L (s : State) : Result := accumulate .SUB (.reg .L) s

/-- `SUB (HL)`, 0x96 (R183). -/
def execSub_atHL (s : State) : Result := accumulate .SUB .atHL s

/-- `SUB A`, 0x97 (R183). -/
def execSub_A (s : State) : Result := accumulate .SUB (.reg .A) s

/-- `SBC A,B`, 0x98 (R184). -/
def execSbc_A_B (s : State) : Result := accumulate .SBC (.reg .B) s

/-- `SBC A,C`, 0x99 (R184). -/
def execSbc_A_C (s : State) : Result := accumulate .SBC (.reg .C) s

/-- `SBC A,D`, 0x9A (R184). -/
def execSbc_A_D (s : State) : Result := accumulate .SBC (.reg .D) s

/-- `SBC A,E`, 0x9B (R184). -/
def execSbc_A_E (s : State) : Result := accumulate .SBC (.reg .E) s

/-- `SBC A,H`, 0x9C (R184). -/
def execSbc_A_H (s : State) : Result := accumulate .SBC (.reg .H) s

/-- `SBC A,L`, 0x9D (R184). -/
def execSbc_A_L (s : State) : Result := accumulate .SBC (.reg .L) s

/-- `SBC A,(HL)`, 0x9E (R184). -/
def execSbc_A_atHL (s : State) : Result := accumulate .SBC .atHL s

/-- `SBC A,A`, 0x9F (R184). -/
def execSbc_A_A (s : State) : Result := accumulate .SBC (.reg .A) s

/-- `AND B`, 0xA0 (R185). -/
def execAnd_B (s : State) : Result := accumulate .AND (.reg .B) s

/-- `AND C`, 0xA1 (R185). -/
def execAnd_C (s : State) : Result := accumulate .AND (.reg .C) s

/-- `AND D`, 0xA2 (R185). -/
def execAnd_D (s : State) : Result := accumulate .AND (.reg .D) s

/-- `AND E`, 0xA3 (R185). -/
def execAnd_E (s : State) : Result := accumulate .AND (.reg .E) s

/-- `AND H`, 0xA4 (R185). -/
def execAnd_H (s : State) : Result := accumulate .AND (.reg .H) s

/-- `AND L`, 0xA5 (R185). -/
def execAnd_L (s : State) : Result := accumulate .AND (.reg .L) s

/-- `AND (HL)`, 0xA6 (R185). -/
def execAnd_atHL (s : State) : Result := accumulate .AND .atHL s

/-- `AND A`, 0xA7 (R185). -/
def execAnd_A (s : State) : Result := accumulate .AND (.reg .A) s

/-- `XOR B`, 0xA8 (R186). -/
def execXor_B (s : State) : Result := accumulate .XOR (.reg .B) s

/-- `XOR C`, 0xA9 (R186). -/
def execXor_C (s : State) : Result := accumulate .XOR (.reg .C) s

/-- `XOR D`, 0xAA (R186). -/
def execXor_D (s : State) : Result := accumulate .XOR (.reg .D) s

/-- `XOR E`, 0xAB (R186). -/
def execXor_E (s : State) : Result := accumulate .XOR (.reg .E) s

/-- `XOR H`, 0xAC (R186). -/
def execXor_H (s : State) : Result := accumulate .XOR (.reg .H) s

/-- `XOR L`, 0xAD (R186). -/
def execXor_L (s : State) : Result := accumulate .XOR (.reg .L) s

/-- `XOR (HL)`, 0xAE (R186). -/
def execXor_atHL (s : State) : Result := accumulate .XOR .atHL s

/-- `XOR A`, 0xAF (R186). -/
def execXor_A (s : State) : Result := accumulate .XOR (.reg .A) s

/-- `OR B`, 0xB0 (R187). -/
def execOr_B (s : State) : Result := accumulate .OR (.reg .B) s

/-- `OR C`, 0xB1 (R187). -/
def execOr_C (s : State) : Result := accumulate .OR (.reg .C) s

/-- `OR D`, 0xB2 (R187). -/
def execOr_D (s : State) : Result := accumulate .OR (.reg .D) s

/-- `OR E`, 0xB3 (R187). -/
def execOr_E (s : State) : Result := accumulate .OR (.reg .E) s

/-- `OR H`, 0xB4 (R187). -/
def execOr_H (s : State) : Result := accumulate .OR (.reg .H) s

/-- `OR L`, 0xB5 (R187). -/
def execOr_L (s : State) : Result := accumulate .OR (.reg .L) s

/-- `OR (HL)`, 0xB6 (R187). -/
def execOr_atHL (s : State) : Result := accumulate .OR .atHL s

/-- `OR A`, 0xB7 (R187). -/
def execOr_A (s : State) : Result := accumulate .OR (.reg .A) s

/-- `CP B`, 0xB8 (R188). -/
def execCp_B (s : State) : Result := accumulate .CP (.reg .B) s

/-- `CP C`, 0xB9 (R188). -/
def execCp_C (s : State) : Result := accumulate .CP (.reg .C) s

/-- `CP D`, 0xBA (R188). -/
def execCp_D (s : State) : Result := accumulate .CP (.reg .D) s

/-- `CP E`, 0xBB (R188). -/
def execCp_E (s : State) : Result := accumulate .CP (.reg .E) s

/-- `CP H`, 0xBC (R188). -/
def execCp_H (s : State) : Result := accumulate .CP (.reg .H) s

/-- `CP L`, 0xBD (R188). -/
def execCp_L (s : State) : Result := accumulate .CP (.reg .L) s

/-- `CP (HL)`, 0xBE (R188). -/
def execCp_atHL (s : State) : Result := accumulate .CP .atHL s

/-- `CP A`, 0xBF (R188). -/
def execCp_A (s : State) : Result := accumulate .CP (.reg .A) s

/-- `ADD A,d8`, 0xC6 (R181). -/
def execAdd_A_d8 (d8 : Byte) (s : State) : Result := accumulate .ADD (.imm d8) s

/-- `ADC A,d8`, 0xCE (R182). -/
def execAdc_A_d8 (d8 : Byte) (s : State) : Result := accumulate .ADC (.imm d8) s

/-- `SUB d8`, 0xD6 (R183). -/
def execSub_d8 (d8 : Byte) (s : State) : Result := accumulate .SUB (.imm d8) s

/-- `SBC A,d8`, 0xDE (R184). -/
def execSbc_A_d8 (d8 : Byte) (s : State) : Result := accumulate .SBC (.imm d8) s

/-- `AND d8`, 0xE6 (R185). -/
def execAnd_d8 (d8 : Byte) (s : State) : Result := accumulate .AND (.imm d8) s

/-- `ADD SP,e8`, 0xE8 (R190). -/
def execAdd_SP_e8 (e8 : Byte) (s : State) : Result := loadPairFromSP .SP e8 16 s

/-- `XOR d8`, 0xEE (R186). -/
def execXor_d8 (d8 : Byte) (s : State) : Result := accumulate .XOR (.imm d8) s

/-- `OR d8`, 0xF6 (R187). -/
def execOr_d8 (d8 : Byte) (s : State) : Result := accumulate .OR (.imm d8) s

/-- `CP d8`, 0xFE (R188). -/
def execCp_d8 (d8 : Byte) (s : State) : Result := accumulate .CP (.imm d8) s

end Sys2Proof.Machine
end

