-- ==== Sys2Proof/Machine/Extended.lean ====
section
/-! DEFINITION. The extended table (47_extended_cb.md): its shared operations in both values of CB_MODE, the rotate, shift and swap group, and the CB byte. -/

namespace Sys2Proof.Machine

/-- A stub (R222): the cost, and no bus access or change of anything. -/
def stubbed (o : Operand8) (s : State) : Result := finish (extendedCost o) s

/-- An extended opcode other than RLC (R221): live in mode silicon, a stub in mode stub. -/
def liveOrStub (o : Operand8) (live : State → Result) (s : State) : Result :=
  match s.cbMode with
  | .silicon => live s
  | .stub => stubbed o s

/-- A rotate, shift or swap of an operand (R223 to R230): for (HL) one read, one write, the flags set even if the write is not stored. -/
def rotateOperand (op : RotOp) (o : Operand8) (s : State) : Result :=
  withOperand s o fun v s1 =>
    finish (extendedCost o) ((putOperand s1 o (rotate op v s1.fC).1).setFlags (rotFlags (rotate op v s1.fC)))

/-- `BIT b` in mode silicon (R231): nothing is written back. -/
def liveBit (b : Nat) (o : Operand8) (s : State) : Result :=
  withOperand s o fun v s1 => finish (extendedCost o) (s1.setFlags (bitFlags v b s1.fC))

/-- `RES b` in mode silicon (R232): no flag changes. -/
def liveRes (b : Nat) (o : Operand8) (s : State) : Result :=
  withOperand s o fun v s1 => finish (extendedCost o) (putOperand s1 o (resBit v b))

/-- `SET b` in mode silicon (R233): no flag changes. -/
def liveSet (b : Nat) (o : Operand8) (s : State) : Result :=
  withOperand s o fun v s1 => finish (extendedCost o) (putOperand s1 o (setBit v b))

/-- The extended instruction of opcode `x`, from its three fields (R214, R220, R221). -/
def runExtended (x : Byte) (s : State) : Result :=
  let y := fieldY x
  let o := Operand8.ofField (fieldZ x)
  match (fieldX x).toNat with
  | 0 =>
    match RotOp.ofField y with
    | .RLC => rotateOperand .RLC o s
    | op => liveOrStub o (rotateOperand op o) s
  | 1 => liveOrStub o (liveBit y.toNat o) s
  | 2 => liveOrStub o (liveRes y.toNat o) s
  | _ => liveOrStub o (liveSet y.toNat o) s

/-- `PREFIX CB`, 0xCB (R214). -/
def execPrefixCB (x : Byte) (s : State) : Result := runExtended x s

/-- `RLC B`, CB 00 (R223). -/
def execRlc_B (s : State) : Result := rotateOperand .RLC (.reg .B) s

/-- `RLC C`, CB 01 (R223). -/
def execRlc_C (s : State) : Result := rotateOperand .RLC (.reg .C) s

/-- `RLC D`, CB 02 (R223). -/
def execRlc_D (s : State) : Result := rotateOperand .RLC (.reg .D) s

/-- `RLC E`, CB 03 (R223). -/
def execRlc_E (s : State) : Result := rotateOperand .RLC (.reg .E) s

/-- `RLC H`, CB 04 (R223). -/
def execRlc_H (s : State) : Result := rotateOperand .RLC (.reg .H) s

/-- `RLC L`, CB 05 (R223). -/
def execRlc_L (s : State) : Result := rotateOperand .RLC (.reg .L) s

/-- `RLC (HL)`, CB 06 (R223). -/
def execRlc_atHL (s : State) : Result := rotateOperand .RLC .atHL s

/-- `RLC A`, CB 07 (R223). -/
def execRlc_A (s : State) : Result := rotateOperand .RLC (.reg .A) s

/-- `RRC B`, CB 08 (R224). -/
def execRrc_B (s : State) : Result := liveOrStub (.reg .B) (rotateOperand .RRC (.reg .B)) s

/-- `RRC C`, CB 09 (R224). -/
def execRrc_C (s : State) : Result := liveOrStub (.reg .C) (rotateOperand .RRC (.reg .C)) s

/-- `RRC D`, CB 0A (R224). -/
def execRrc_D (s : State) : Result := liveOrStub (.reg .D) (rotateOperand .RRC (.reg .D)) s

/-- `RRC E`, CB 0B (R224). -/
def execRrc_E (s : State) : Result := liveOrStub (.reg .E) (rotateOperand .RRC (.reg .E)) s

/-- `RRC H`, CB 0C (R224). -/
def execRrc_H (s : State) : Result := liveOrStub (.reg .H) (rotateOperand .RRC (.reg .H)) s

/-- `RRC L`, CB 0D (R224). -/
def execRrc_L (s : State) : Result := liveOrStub (.reg .L) (rotateOperand .RRC (.reg .L)) s

/-- `RRC (HL)`, CB 0E (R224). -/
def execRrc_atHL (s : State) : Result := liveOrStub .atHL (rotateOperand .RRC .atHL) s

/-- `RRC A`, CB 0F (R224). -/
def execRrc_A (s : State) : Result := liveOrStub (.reg .A) (rotateOperand .RRC (.reg .A)) s

/-- `RL B`, CB 10 (R225). -/
def execRl_B (s : State) : Result := liveOrStub (.reg .B) (rotateOperand .RL (.reg .B)) s

/-- `RL C`, CB 11 (R225). -/
def execRl_C (s : State) : Result := liveOrStub (.reg .C) (rotateOperand .RL (.reg .C)) s

/-- `RL D`, CB 12 (R225). -/
def execRl_D (s : State) : Result := liveOrStub (.reg .D) (rotateOperand .RL (.reg .D)) s

/-- `RL E`, CB 13 (R225). -/
def execRl_E (s : State) : Result := liveOrStub (.reg .E) (rotateOperand .RL (.reg .E)) s

/-- `RL H`, CB 14 (R225). -/
def execRl_H (s : State) : Result := liveOrStub (.reg .H) (rotateOperand .RL (.reg .H)) s

/-- `RL L`, CB 15 (R225). -/
def execRl_L (s : State) : Result := liveOrStub (.reg .L) (rotateOperand .RL (.reg .L)) s

/-- `RL (HL)`, CB 16 (R225). -/
def execRl_atHL (s : State) : Result := liveOrStub .atHL (rotateOperand .RL .atHL) s

/-- `RL A`, CB 17 (R225). -/
def execRl_A (s : State) : Result := liveOrStub (.reg .A) (rotateOperand .RL (.reg .A)) s

/-- `RR B`, CB 18 (R226). -/
def execRr_B (s : State) : Result := liveOrStub (.reg .B) (rotateOperand .RR (.reg .B)) s

/-- `RR C`, CB 19 (R226). -/
def execRr_C (s : State) : Result := liveOrStub (.reg .C) (rotateOperand .RR (.reg .C)) s

/-- `RR D`, CB 1A (R226). -/
def execRr_D (s : State) : Result := liveOrStub (.reg .D) (rotateOperand .RR (.reg .D)) s

/-- `RR E`, CB 1B (R226). -/
def execRr_E (s : State) : Result := liveOrStub (.reg .E) (rotateOperand .RR (.reg .E)) s

/-- `RR H`, CB 1C (R226). -/
def execRr_H (s : State) : Result := liveOrStub (.reg .H) (rotateOperand .RR (.reg .H)) s

/-- `RR L`, CB 1D (R226). -/
def execRr_L (s : State) : Result := liveOrStub (.reg .L) (rotateOperand .RR (.reg .L)) s

/-- `RR (HL)`, CB 1E (R226). -/
def execRr_atHL (s : State) : Result := liveOrStub .atHL (rotateOperand .RR .atHL) s

/-- `RR A`, CB 1F (R226). -/
def execRr_A (s : State) : Result := liveOrStub (.reg .A) (rotateOperand .RR (.reg .A)) s

/-- `SLA B`, CB 20 (R227). -/
def execSla_B (s : State) : Result := liveOrStub (.reg .B) (rotateOperand .SLA (.reg .B)) s

/-- `SLA C`, CB 21 (R227). -/
def execSla_C (s : State) : Result := liveOrStub (.reg .C) (rotateOperand .SLA (.reg .C)) s

/-- `SLA D`, CB 22 (R227). -/
def execSla_D (s : State) : Result := liveOrStub (.reg .D) (rotateOperand .SLA (.reg .D)) s

/-- `SLA E`, CB 23 (R227). -/
def execSla_E (s : State) : Result := liveOrStub (.reg .E) (rotateOperand .SLA (.reg .E)) s

/-- `SLA H`, CB 24 (R227). -/
def execSla_H (s : State) : Result := liveOrStub (.reg .H) (rotateOperand .SLA (.reg .H)) s

/-- `SLA L`, CB 25 (R227). -/
def execSla_L (s : State) : Result := liveOrStub (.reg .L) (rotateOperand .SLA (.reg .L)) s

/-- `SLA (HL)`, CB 26 (R227). -/
def execSla_atHL (s : State) : Result := liveOrStub .atHL (rotateOperand .SLA .atHL) s

/-- `SLA A`, CB 27 (R227). -/
def execSla_A (s : State) : Result := liveOrStub (.reg .A) (rotateOperand .SLA (.reg .A)) s

/-- `SRA B`, CB 28 (R228). -/
def execSra_B (s : State) : Result := liveOrStub (.reg .B) (rotateOperand .SRA (.reg .B)) s

/-- `SRA C`, CB 29 (R228). -/
def execSra_C (s : State) : Result := liveOrStub (.reg .C) (rotateOperand .SRA (.reg .C)) s

/-- `SRA D`, CB 2A (R228). -/
def execSra_D (s : State) : Result := liveOrStub (.reg .D) (rotateOperand .SRA (.reg .D)) s

/-- `SRA E`, CB 2B (R228). -/
def execSra_E (s : State) : Result := liveOrStub (.reg .E) (rotateOperand .SRA (.reg .E)) s

/-- `SRA H`, CB 2C (R228). -/
def execSra_H (s : State) : Result := liveOrStub (.reg .H) (rotateOperand .SRA (.reg .H)) s

/-- `SRA L`, CB 2D (R228). -/
def execSra_L (s : State) : Result := liveOrStub (.reg .L) (rotateOperand .SRA (.reg .L)) s

/-- `SRA (HL)`, CB 2E (R228). -/
def execSra_atHL (s : State) : Result := liveOrStub .atHL (rotateOperand .SRA .atHL) s

/-- `SRA A`, CB 2F (R228). -/
def execSra_A (s : State) : Result := liveOrStub (.reg .A) (rotateOperand .SRA (.reg .A)) s

/-- `SWAP B`, CB 30 (R229). -/
def execSwap_B (s : State) : Result := liveOrStub (.reg .B) (rotateOperand .SWAP (.reg .B)) s

/-- `SWAP C`, CB 31 (R229). -/
def execSwap_C (s : State) : Result := liveOrStub (.reg .C) (rotateOperand .SWAP (.reg .C)) s

/-- `SWAP D`, CB 32 (R229). -/
def execSwap_D (s : State) : Result := liveOrStub (.reg .D) (rotateOperand .SWAP (.reg .D)) s

/-- `SWAP E`, CB 33 (R229). -/
def execSwap_E (s : State) : Result := liveOrStub (.reg .E) (rotateOperand .SWAP (.reg .E)) s

/-- `SWAP H`, CB 34 (R229). -/
def execSwap_H (s : State) : Result := liveOrStub (.reg .H) (rotateOperand .SWAP (.reg .H)) s

/-- `SWAP L`, CB 35 (R229). -/
def execSwap_L (s : State) : Result := liveOrStub (.reg .L) (rotateOperand .SWAP (.reg .L)) s

/-- `SWAP (HL)`, CB 36 (R229). -/
def execSwap_atHL (s : State) : Result := liveOrStub .atHL (rotateOperand .SWAP .atHL) s

/-- `SWAP A`, CB 37 (R229). -/
def execSwap_A (s : State) : Result := liveOrStub (.reg .A) (rotateOperand .SWAP (.reg .A)) s

/-- `SRL B`, CB 38 (R230). -/
def execSrl_B (s : State) : Result := liveOrStub (.reg .B) (rotateOperand .SRL (.reg .B)) s

/-- `SRL C`, CB 39 (R230). -/
def execSrl_C (s : State) : Result := liveOrStub (.reg .C) (rotateOperand .SRL (.reg .C)) s

/-- `SRL D`, CB 3A (R230). -/
def execSrl_D (s : State) : Result := liveOrStub (.reg .D) (rotateOperand .SRL (.reg .D)) s

/-- `SRL E`, CB 3B (R230). -/
def execSrl_E (s : State) : Result := liveOrStub (.reg .E) (rotateOperand .SRL (.reg .E)) s

/-- `SRL H`, CB 3C (R230). -/
def execSrl_H (s : State) : Result := liveOrStub (.reg .H) (rotateOperand .SRL (.reg .H)) s

/-- `SRL L`, CB 3D (R230). -/
def execSrl_L (s : State) : Result := liveOrStub (.reg .L) (rotateOperand .SRL (.reg .L)) s

/-- `SRL (HL)`, CB 3E (R230). -/
def execSrl_atHL (s : State) : Result := liveOrStub .atHL (rotateOperand .SRL .atHL) s

/-- `SRL A`, CB 3F (R230). -/
def execSrl_A (s : State) : Result := liveOrStub (.reg .A) (rotateOperand .SRL (.reg .A)) s

end Sys2Proof.Machine
end

