-- ==== Sys2Proof/Machine/BitOps.lean ====
section
/-! DEFINITION. BIT (R231). -/

namespace Sys2Proof.Machine

/-- `BIT b` where it is live: nothing is written back. -/
def testBit (b : Nat) (o : Operand8) (s : State) : Result := liveOrStub o (liveBit b o) s

/-- `BIT 0,B`, CB 40 (R231). -/
def execBit_0_B (s : State) : Result := testBit 0 (.reg .B) s

/-- `BIT 0,C`, CB 41 (R231). -/
def execBit_0_C (s : State) : Result := testBit 0 (.reg .C) s

/-- `BIT 0,D`, CB 42 (R231). -/
def execBit_0_D (s : State) : Result := testBit 0 (.reg .D) s

/-- `BIT 0,E`, CB 43 (R231). -/
def execBit_0_E (s : State) : Result := testBit 0 (.reg .E) s

/-- `BIT 0,H`, CB 44 (R231). -/
def execBit_0_H (s : State) : Result := testBit 0 (.reg .H) s

/-- `BIT 0,L`, CB 45 (R231). -/
def execBit_0_L (s : State) : Result := testBit 0 (.reg .L) s

/-- `BIT 0,(HL)`, CB 46 (R231). -/
def execBit_0_atHL (s : State) : Result := testBit 0 .atHL s

/-- `BIT 0,A`, CB 47 (R231). -/
def execBit_0_A (s : State) : Result := testBit 0 (.reg .A) s

/-- `BIT 1,B`, CB 48 (R231). -/
def execBit_1_B (s : State) : Result := testBit 1 (.reg .B) s

/-- `BIT 1,C`, CB 49 (R231). -/
def execBit_1_C (s : State) : Result := testBit 1 (.reg .C) s

/-- `BIT 1,D`, CB 4A (R231). -/
def execBit_1_D (s : State) : Result := testBit 1 (.reg .D) s

/-- `BIT 1,E`, CB 4B (R231). -/
def execBit_1_E (s : State) : Result := testBit 1 (.reg .E) s

/-- `BIT 1,H`, CB 4C (R231). -/
def execBit_1_H (s : State) : Result := testBit 1 (.reg .H) s

/-- `BIT 1,L`, CB 4D (R231). -/
def execBit_1_L (s : State) : Result := testBit 1 (.reg .L) s

/-- `BIT 1,(HL)`, CB 4E (R231). -/
def execBit_1_atHL (s : State) : Result := testBit 1 .atHL s

/-- `BIT 1,A`, CB 4F (R231). -/
def execBit_1_A (s : State) : Result := testBit 1 (.reg .A) s

/-- `BIT 2,B`, CB 50 (R231). -/
def execBit_2_B (s : State) : Result := testBit 2 (.reg .B) s

/-- `BIT 2,C`, CB 51 (R231). -/
def execBit_2_C (s : State) : Result := testBit 2 (.reg .C) s

/-- `BIT 2,D`, CB 52 (R231). -/
def execBit_2_D (s : State) : Result := testBit 2 (.reg .D) s

/-- `BIT 2,E`, CB 53 (R231). -/
def execBit_2_E (s : State) : Result := testBit 2 (.reg .E) s

/-- `BIT 2,H`, CB 54 (R231). -/
def execBit_2_H (s : State) : Result := testBit 2 (.reg .H) s

/-- `BIT 2,L`, CB 55 (R231). -/
def execBit_2_L (s : State) : Result := testBit 2 (.reg .L) s

/-- `BIT 2,(HL)`, CB 56 (R231). -/
def execBit_2_atHL (s : State) : Result := testBit 2 .atHL s

/-- `BIT 2,A`, CB 57 (R231). -/
def execBit_2_A (s : State) : Result := testBit 2 (.reg .A) s

/-- `BIT 3,B`, CB 58 (R231). -/
def execBit_3_B (s : State) : Result := testBit 3 (.reg .B) s

/-- `BIT 3,C`, CB 59 (R231). -/
def execBit_3_C (s : State) : Result := testBit 3 (.reg .C) s

/-- `BIT 3,D`, CB 5A (R231). -/
def execBit_3_D (s : State) : Result := testBit 3 (.reg .D) s

/-- `BIT 3,E`, CB 5B (R231). -/
def execBit_3_E (s : State) : Result := testBit 3 (.reg .E) s

/-- `BIT 3,H`, CB 5C (R231). -/
def execBit_3_H (s : State) : Result := testBit 3 (.reg .H) s

/-- `BIT 3,L`, CB 5D (R231). -/
def execBit_3_L (s : State) : Result := testBit 3 (.reg .L) s

/-- `BIT 3,(HL)`, CB 5E (R231). -/
def execBit_3_atHL (s : State) : Result := testBit 3 .atHL s

/-- `BIT 3,A`, CB 5F (R231). -/
def execBit_3_A (s : State) : Result := testBit 3 (.reg .A) s

/-- `BIT 4,B`, CB 60 (R231). -/
def execBit_4_B (s : State) : Result := testBit 4 (.reg .B) s

/-- `BIT 4,C`, CB 61 (R231). -/
def execBit_4_C (s : State) : Result := testBit 4 (.reg .C) s

/-- `BIT 4,D`, CB 62 (R231). -/
def execBit_4_D (s : State) : Result := testBit 4 (.reg .D) s

/-- `BIT 4,E`, CB 63 (R231). -/
def execBit_4_E (s : State) : Result := testBit 4 (.reg .E) s

/-- `BIT 4,H`, CB 64 (R231). -/
def execBit_4_H (s : State) : Result := testBit 4 (.reg .H) s

/-- `BIT 4,L`, CB 65 (R231). -/
def execBit_4_L (s : State) : Result := testBit 4 (.reg .L) s

/-- `BIT 4,(HL)`, CB 66 (R231). -/
def execBit_4_atHL (s : State) : Result := testBit 4 .atHL s

/-- `BIT 4,A`, CB 67 (R231). -/
def execBit_4_A (s : State) : Result := testBit 4 (.reg .A) s

/-- `BIT 5,B`, CB 68 (R231). -/
def execBit_5_B (s : State) : Result := testBit 5 (.reg .B) s

/-- `BIT 5,C`, CB 69 (R231). -/
def execBit_5_C (s : State) : Result := testBit 5 (.reg .C) s

/-- `BIT 5,D`, CB 6A (R231). -/
def execBit_5_D (s : State) : Result := testBit 5 (.reg .D) s

/-- `BIT 5,E`, CB 6B (R231). -/
def execBit_5_E (s : State) : Result := testBit 5 (.reg .E) s

/-- `BIT 5,H`, CB 6C (R231). -/
def execBit_5_H (s : State) : Result := testBit 5 (.reg .H) s

/-- `BIT 5,L`, CB 6D (R231). -/
def execBit_5_L (s : State) : Result := testBit 5 (.reg .L) s

/-- `BIT 5,(HL)`, CB 6E (R231). -/
def execBit_5_atHL (s : State) : Result := testBit 5 .atHL s

/-- `BIT 5,A`, CB 6F (R231). -/
def execBit_5_A (s : State) : Result := testBit 5 (.reg .A) s

/-- `BIT 6,B`, CB 70 (R231). -/
def execBit_6_B (s : State) : Result := testBit 6 (.reg .B) s

/-- `BIT 6,C`, CB 71 (R231). -/
def execBit_6_C (s : State) : Result := testBit 6 (.reg .C) s

/-- `BIT 6,D`, CB 72 (R231). -/
def execBit_6_D (s : State) : Result := testBit 6 (.reg .D) s

/-- `BIT 6,E`, CB 73 (R231). -/
def execBit_6_E (s : State) : Result := testBit 6 (.reg .E) s

/-- `BIT 6,H`, CB 74 (R231). -/
def execBit_6_H (s : State) : Result := testBit 6 (.reg .H) s

/-- `BIT 6,L`, CB 75 (R231). -/
def execBit_6_L (s : State) : Result := testBit 6 (.reg .L) s

/-- `BIT 6,(HL)`, CB 76 (R231). -/
def execBit_6_atHL (s : State) : Result := testBit 6 .atHL s

/-- `BIT 6,A`, CB 77 (R231). -/
def execBit_6_A (s : State) : Result := testBit 6 (.reg .A) s

/-- `BIT 7,B`, CB 78 (R231). -/
def execBit_7_B (s : State) : Result := testBit 7 (.reg .B) s

/-- `BIT 7,C`, CB 79 (R231). -/
def execBit_7_C (s : State) : Result := testBit 7 (.reg .C) s

/-- `BIT 7,D`, CB 7A (R231). -/
def execBit_7_D (s : State) : Result := testBit 7 (.reg .D) s

/-- `BIT 7,E`, CB 7B (R231). -/
def execBit_7_E (s : State) : Result := testBit 7 (.reg .E) s

/-- `BIT 7,H`, CB 7C (R231). -/
def execBit_7_H (s : State) : Result := testBit 7 (.reg .H) s

/-- `BIT 7,L`, CB 7D (R231). -/
def execBit_7_L (s : State) : Result := testBit 7 (.reg .L) s

/-- `BIT 7,(HL)`, CB 7E (R231). -/
def execBit_7_atHL (s : State) : Result := testBit 7 .atHL s

/-- `BIT 7,A`, CB 7F (R231). -/
def execBit_7_A (s : State) : Result := testBit 7 (.reg .A) s

end Sys2Proof.Machine
end

