-- ==== Sys2Proof/Machine/Control.lean ====
section
/-! DEFINITION. Control transfer (43_control.md). PC is past the whole instruction when a meaning runs. None changes a flag. -/

namespace Sys2Proof.Machine

/-- Set PC. -/
def jumpTo (target : Word) (cycles : Nat) (s : State) : Result := finish cycles (s.setPc target)

/-- Push the address of the next instruction, then set PC (R166, R171). -/
def callTo (target : Word) (cycles : Nat) (s : State) : Result := finish cycles ((push16 s s.pc).setPc target)

/-- Pop PC (R168). -/
def returnTo (cycles : Nat) (s : State) : Result := withPop s fun v s1 => finish cycles (s1.setPc v)

/-- A conditional form (R160): its effect when the condition holds, else only the lower cost. -/
def branchIf (c : Cond) (taken : Result) (otherwise : Nat) (s : State) : Result :=
  if s.cond c then taken else finish otherwise s

/-- `JR e8`, 0x18 (R161). -/
def execJr_e8 (e8 : Byte) (s : State) : Result := jumpTo (relativeTarget s e8) 12 s

/-- `JR NZ,e8`, 0x20 (R162). -/
def execJr_NZ_e8 (e8 : Byte) (s : State) : Result := branchIf .NZ (jumpTo (relativeTarget s e8) 12 s) 8 s

/-- `JR Z,e8`, 0x28 (R162). -/
def execJr_Z_e8 (e8 : Byte) (s : State) : Result := branchIf .Z (jumpTo (relativeTarget s e8) 12 s) 8 s

/-- `JR NC,e8`, 0x30 (R162). -/
def execJr_NC_e8 (e8 : Byte) (s : State) : Result := branchIf .NC (jumpTo (relativeTarget s e8) 12 s) 8 s

/-- `JR C,e8`, 0x38 (R162). -/
def execJr_C_e8 (e8 : Byte) (s : State) : Result := branchIf .C (jumpTo (relativeTarget s e8) 12 s) 8 s

/-- `RET NZ`, 0xC0 (R169). -/
def execRet_NZ (s : State) : Result := branchIf .NZ (returnTo 20 s) 8 s

/-- `JP NZ,a16`, 0xC2 (R164). -/
def execJp_NZ_a16 (a16 : Word) (s : State) : Result := branchIf .NZ (jumpTo a16 16 s) 12 s

/-- `JP a16`, 0xC3 (R163). -/
def execJp_a16 (a16 : Word) (s : State) : Result := jumpTo a16 16 s

/-- `CALL NZ,a16`, 0xC4 (R167). -/
def execCall_NZ_a16 (a16 : Word) (s : State) : Result := branchIf .NZ (callTo a16 24 s) 12 s

/-- `RST 0x00`, 0xC7 (R171). -/
def execRst_00 (s : State) : Result := callTo 0x0000 16 s

/-- `RET Z`, 0xC8 (R169). -/
def execRet_Z (s : State) : Result := branchIf .Z (returnTo 20 s) 8 s

/-- `RET`, 0xC9 (R168). -/
def execRet (s : State) : Result := returnTo 16 s

/-- `JP Z,a16`, 0xCA (R164). -/
def execJp_Z_a16 (a16 : Word) (s : State) : Result := branchIf .Z (jumpTo a16 16 s) 12 s

/-- `CALL Z,a16`, 0xCC (R167). -/
def execCall_Z_a16 (a16 : Word) (s : State) : Result := branchIf .Z (callTo a16 24 s) 12 s

/-- `CALL a16`, 0xCD (R166). -/
def execCall_a16 (a16 : Word) (s : State) : Result := callTo a16 24 s

/-- `RST 0x08`, 0xCF (R171). -/
def execRst_08 (s : State) : Result := callTo 0x0008 16 s

/-- `RET NC`, 0xD0 (R169). -/
def execRet_NC (s : State) : Result := branchIf .NC (returnTo 20 s) 8 s

/-- `JP NC,a16`, 0xD2 (R164). -/
def execJp_NC_a16 (a16 : Word) (s : State) : Result := branchIf .NC (jumpTo a16 16 s) 12 s

/-- `CALL NC,a16`, 0xD4 (R167). -/
def execCall_NC_a16 (a16 : Word) (s : State) : Result := branchIf .NC (callTo a16 24 s) 12 s

/-- `RST 0x10`, 0xD7 (R171). -/
def execRst_10 (s : State) : Result := callTo 0x0010 16 s

/-- `RET C`, 0xD8 (R169). -/
def execRet_C (s : State) : Result := branchIf .C (returnTo 20 s) 8 s

/-- `RETI`, 0xD9 (R170). -/
def execReti (s : State) : Result := withPop s fun v s1 => finish 16 ((s1.setPc v).setIme true)

/-- `JP C,a16`, 0xDA (R164). -/
def execJp_C_a16 (a16 : Word) (s : State) : Result := branchIf .C (jumpTo a16 16 s) 12 s

/-- `CALL C,a16`, 0xDC (R167). -/
def execCall_C_a16 (a16 : Word) (s : State) : Result := branchIf .C (callTo a16 24 s) 12 s

/-- `RST 0x18`, 0xDF (R171). -/
def execRst_18 (s : State) : Result := callTo 0x0018 16 s

/-- `RST 0x20`, 0xE7 (R171). -/
def execRst_20 (s : State) : Result := callTo 0x0020 16 s

/-- `JP HL`, 0xE9 (R165). -/
def execJp_HL (s : State) : Result := jumpTo s.hl.value 4 s

/-- `RST 0x28`, 0xEF (R171). -/
def execRst_28 (s : State) : Result := callTo 0x0028 16 s

/-- `RST 0x30`, 0xF7 (R171). -/
def execRst_30 (s : State) : Result := callTo 0x0030 16 s

/-- `RST 0x38`, 0xFF (R171). -/
def execRst_38 (s : State) : Result := callTo 0x0038 16 s

end Sys2Proof.Machine
end

