-- ==== Sys2Proof/Machine/IncDec.lean ====
section
/-! DEFINITION. Increment and decrement (42_incdec.md). The 16-bit forms change no flag. -/

namespace Sys2Proof.Machine

/-- `INC r` (R150). -/
def incByte (r : Reg8) (s : State) : Result :=
  finish 4 ((s.setR8 r (s.getR8 r + 1)).setFlags (incFlags (s.getR8 r) s.fC))

/-- `DEC r` (R152). -/
def decByte (r : Reg8) (s : State) : Result :=
  finish 4 ((s.setR8 r (s.getR8 r - 1)).setFlags (decFlags (s.getR8 r) s.fC))

/-- `INC (HL)` (R151): one read, one write, the flags set even if the write is not stored. -/
def incAtHL (s : State) : Result :=
  withByte s s.hl.value fun v s1 => finish 12 ((busWrite s1 s1.hl.value (v + 1)).setFlags (incFlags v s1.fC))

/-- `DEC (HL)` (R153). -/
def decAtHL (s : State) : Result :=
  withByte s s.hl.value fun v s1 => finish 12 ((busWrite s1 s1.hl.value (v - 1)).setFlags (decFlags v s1.fC))

/-- `INC BC`, 0x03 (R154). -/
def execInc_BC (s : State) : Result := finish 8 (s.setR16 .BC (s.getR16 .BC + 1))

/-- `INC B`, 0x04 (R150). -/
def execInc_B (s : State) : Result := incByte .B s

/-- `DEC B`, 0x05 (R152). -/
def execDec_B (s : State) : Result := decByte .B s

/-- `DEC BC`, 0x0B (R155). -/
def execDec_BC (s : State) : Result := finish 8 (s.setR16 .BC (s.getR16 .BC - 1))

/-- `INC C`, 0x0C (R150). -/
def execInc_C (s : State) : Result := incByte .C s

/-- `DEC C`, 0x0D (R152). -/
def execDec_C (s : State) : Result := decByte .C s

/-- `INC DE`, 0x13 (R154). -/
def execInc_DE (s : State) : Result := finish 8 (s.setR16 .DE (s.getR16 .DE + 1))

/-- `INC D`, 0x14 (R150). -/
def execInc_D (s : State) : Result := incByte .D s

/-- `DEC D`, 0x15 (R152). -/
def execDec_D (s : State) : Result := decByte .D s

/-- `DEC DE`, 0x1B (R155). -/
def execDec_DE (s : State) : Result := finish 8 (s.setR16 .DE (s.getR16 .DE - 1))

/-- `INC E`, 0x1C (R150). -/
def execInc_E (s : State) : Result := incByte .E s

/-- `DEC E`, 0x1D (R152). -/
def execDec_E (s : State) : Result := decByte .E s

/-- `INC HL`, 0x23 (R154). -/
def execInc_HL (s : State) : Result := finish 8 (s.setR16 .HL (s.getR16 .HL + 1))

/-- `INC H`, 0x24 (R150). -/
def execInc_H (s : State) : Result := incByte .H s

/-- `DEC H`, 0x25 (R152). -/
def execDec_H (s : State) : Result := decByte .H s

/-- `DEC HL`, 0x2B (R155). -/
def execDec_HL (s : State) : Result := finish 8 (s.setR16 .HL (s.getR16 .HL - 1))

/-- `INC L`, 0x2C (R150). -/
def execInc_L (s : State) : Result := incByte .L s

/-- `DEC L`, 0x2D (R152). -/
def execDec_L (s : State) : Result := decByte .L s

/-- `INC SP`, 0x33 (R154). -/
def execInc_SP (s : State) : Result := finish 8 (s.setR16 .SP (s.getR16 .SP + 1))

/-- `INC (HL)`, 0x34 (R151). -/
def execInc_atHL (s : State) : Result := incAtHL s

/-- `DEC (HL)`, 0x35 (R153). -/
def execDec_atHL (s : State) : Result := decAtHL s

/-- `DEC SP`, 0x3B (R155). -/
def execDec_SP (s : State) : Result := finish 8 (s.setR16 .SP (s.getR16 .SP - 1))

/-- `INC A`, 0x3C (R150). -/
def execInc_A (s : State) : Result := incByte .A s

/-- `DEC A`, 0x3D (R152). -/
def execDec_A (s : State) : Result := decByte .A s

end Sys2Proof.Machine
end

