-- ==== Sys2Proof/Machine/Load8.lean ====
section
/-! DEFINITION. 8-bit loads (41_loads8.md). None changes a flag. -/

namespace Sys2Proof.Machine

/-- Load a register with a value. -/
def loadReg (d : Reg8) (v : Byte) (cycles : Nat) (s : State) : Result := finish cycles (s.setR8 d v)

/-- Load a register from memory; the address was formed before the register changes (R121). -/
def loadRegFrom (d : Reg8) (a : Word) (cycles : Nat) (s : State) : Result :=
  withByte s a fun v s1 => finish cycles (s1.setR8 d v)

/-- Store a byte. -/
def storeByte (a : Word) (v : Byte) (cycles : Nat) (s : State) : Result := finish cycles (busWrite s a v)

/-- Store A at the old HL, then write HL (R129, R131, R281). -/
def storeAThenSetHL (next : Word) (s : State) : Result :=
  finish 8 ((busWrite s s.hl.value (s.getR8 .A)).setR16 .HL next)

/-- Load A from the old HL, then write HL (R130, R132, R281). -/
def loadAThenSetHL (next : Word) (s : State) : Result :=
  withByte s s.hl.value fun v s1 => finish 8 ((s1.setR8 .A v).setR16 .HL next)

/-- `LD (BC),A`, 0x02 (R127). -/
def execLd_atBC_A (s : State) : Result := storeByte s.bc.value (s.getR8 .A) 8 s

/-- `LD B,d8`, 0x06 (R123). -/
def execLd_B_d8 (d8 : Byte) (s : State) : Result := loadReg .B d8 8 s

/-- `LD A,(BC)`, 0x0A (R125). -/
def execLd_A_atBC (s : State) : Result := loadRegFrom .A s.bc.value 8 s

/-- `LD C,d8`, 0x0E (R123). -/
def execLd_C_d8 (d8 : Byte) (s : State) : Result := loadReg .C d8 8 s

/-- `LD (DE),A`, 0x12 (R128). -/
def execLd_atDE_A (s : State) : Result := storeByte s.de.value (s.getR8 .A) 8 s

/-- `LD D,d8`, 0x16 (R123). -/
def execLd_D_d8 (d8 : Byte) (s : State) : Result := loadReg .D d8 8 s

/-- `LD A,(DE)`, 0x1A (R126). -/
def execLd_A_atDE (s : State) : Result := loadRegFrom .A s.de.value 8 s

/-- `LD E,d8`, 0x1E (R123). -/
def execLd_E_d8 (d8 : Byte) (s : State) : Result := loadReg .E d8 8 s

/-- `LD (HL+),A`, 0x22 (R129). -/
def execLd_atHLinc_A (s : State) : Result := storeAThenSetHL (s.hl.value + 1) s

/-- `LD H,d8`, 0x26 (R123). -/
def execLd_H_d8 (d8 : Byte) (s : State) : Result := loadReg .H d8 8 s

/-- `LD A,(HL+)`, 0x2A (R130). -/
def execLd_A_atHLinc (s : State) : Result := loadAThenSetHL (s.hl.value + 1) s

/-- `LD L,d8`, 0x2E (R123). -/
def execLd_L_d8 (d8 : Byte) (s : State) : Result := loadReg .L d8 8 s

/-- `LD (HL-),A`, 0x32 (R131). -/
def execLd_atHLdec_A (s : State) : Result := storeAThenSetHL (s.hl.value - 1) s

/-- `LD (HL),d8`, 0x36 (R124). -/
def execLd_atHL_d8 (d8 : Byte) (s : State) : Result := storeByte s.hl.value d8 12 s

/-- `LD A,(HL-)`, 0x3A (R132). -/
def execLd_A_atHLdec (s : State) : Result := loadAThenSetHL (s.hl.value - 1) s

/-- `LD A,d8`, 0x3E (R123). -/
def execLd_A_d8 (d8 : Byte) (s : State) : Result := loadReg .A d8 8 s

/-- `LD B,B`, 0x40 (R120). -/
def execLd_B_B (s : State) : Result := loadReg .B (s.getR8 .B) 4 s

/-- `LD B,C`, 0x41 (R120). -/
def execLd_B_C (s : State) : Result := loadReg .B (s.getR8 .C) 4 s

/-- `LD B,D`, 0x42 (R120). -/
def execLd_B_D (s : State) : Result := loadReg .B (s.getR8 .D) 4 s

/-- `LD B,E`, 0x43 (R120). -/
def execLd_B_E (s : State) : Result := loadReg .B (s.getR8 .E) 4 s

/-- `LD B,H`, 0x44 (R120). -/
def execLd_B_H (s : State) : Result := loadReg .B (s.getR8 .H) 4 s

/-- `LD B,L`, 0x45 (R120). -/
def execLd_B_L (s : State) : Result := loadReg .B (s.getR8 .L) 4 s

/-- `LD B,(HL)`, 0x46 (R121). -/
def execLd_B_atHL (s : State) : Result := loadRegFrom .B s.hl.value 8 s

/-- `LD B,A`, 0x47 (R120). -/
def execLd_B_A (s : State) : Result := loadReg .B (s.getR8 .A) 4 s

/-- `LD C,B`, 0x48 (R120). -/
def execLd_C_B (s : State) : Result := loadReg .C (s.getR8 .B) 4 s

/-- `LD C,C`, 0x49 (R120). -/
def execLd_C_C (s : State) : Result := loadReg .C (s.getR8 .C) 4 s

/-- `LD C,D`, 0x4A (R120). -/
def execLd_C_D (s : State) : Result := loadReg .C (s.getR8 .D) 4 s

/-- `LD C,E`, 0x4B (R120). -/
def execLd_C_E (s : State) : Result := loadReg .C (s.getR8 .E) 4 s

/-- `LD C,H`, 0x4C (R120). -/
def execLd_C_H (s : State) : Result := loadReg .C (s.getR8 .H) 4 s

/-- `LD C,L`, 0x4D (R120). -/
def execLd_C_L (s : State) : Result := loadReg .C (s.getR8 .L) 4 s

/-- `LD C,(HL)`, 0x4E (R121). -/
def execLd_C_atHL (s : State) : Result := loadRegFrom .C s.hl.value 8 s

/-- `LD C,A`, 0x4F (R120). -/
def execLd_C_A (s : State) : Result := loadReg .C (s.getR8 .A) 4 s

/-- `LD D,B`, 0x50 (R120). -/
def execLd_D_B (s : State) : Result := loadReg .D (s.getR8 .B) 4 s

/-- `LD D,C`, 0x51 (R120). -/
def execLd_D_C (s : State) : Result := loadReg .D (s.getR8 .C) 4 s

/-- `LD D,D`, 0x52 (R120). -/
def execLd_D_D (s : State) : Result := loadReg .D (s.getR8 .D) 4 s

/-- `LD D,E`, 0x53 (R120). -/
def execLd_D_E (s : State) : Result := loadReg .D (s.getR8 .E) 4 s

/-- `LD D,H`, 0x54 (R120). -/
def execLd_D_H (s : State) : Result := loadReg .D (s.getR8 .H) 4 s

/-- `LD D,L`, 0x55 (R120). -/
def execLd_D_L (s : State) : Result := loadReg .D (s.getR8 .L) 4 s

/-- `LD D,(HL)`, 0x56 (R121). -/
def execLd_D_atHL (s : State) : Result := loadRegFrom .D s.hl.value 8 s

/-- `LD D,A`, 0x57 (R120). -/
def execLd_D_A (s : State) : Result := loadReg .D (s.getR8 .A) 4 s

/-- `LD E,B`, 0x58 (R120). -/
def execLd_E_B (s : State) : Result := loadReg .E (s.getR8 .B) 4 s

/-- `LD E,C`, 0x59 (R120). -/
def execLd_E_C (s : State) : Result := loadReg .E (s.getR8 .C) 4 s

/-- `LD E,D`, 0x5A (R120). -/
def execLd_E_D (s : State) : Result := loadReg .E (s.getR8 .D) 4 s

/-- `LD E,E`, 0x5B (R120). -/
def execLd_E_E (s : State) : Result := loadReg .E (s.getR8 .E) 4 s

/-- `LD E,H`, 0x5C (R120). -/
def execLd_E_H (s : State) : Result := loadReg .E (s.getR8 .H) 4 s

/-- `LD E,L`, 0x5D (R120). -/
def execLd_E_L (s : State) : Result := loadReg .E (s.getR8 .L) 4 s

/-- `LD E,(HL)`, 0x5E (R121). -/
def execLd_E_atHL (s : State) : Result := loadRegFrom .E s.hl.value 8 s

/-- `LD E,A`, 0x5F (R120). -/
def execLd_E_A (s : State) : Result := loadReg .E (s.getR8 .A) 4 s

/-- `LD H,B`, 0x60 (R120). -/
def execLd_H_B (s : State) : Result := loadReg .H (s.getR8 .B) 4 s

/-- `LD H,C`, 0x61 (R120). -/
def execLd_H_C (s : State) : Result := loadReg .H (s.getR8 .C) 4 s

/-- `LD H,D`, 0x62 (R120). -/
def execLd_H_D (s : State) : Result := loadReg .H (s.getR8 .D) 4 s

/-- `LD H,E`, 0x63 (R120). -/
def execLd_H_E (s : State) : Result := loadReg .H (s.getR8 .E) 4 s

/-- `LD H,H`, 0x64 (R120). -/
def execLd_H_H (s : State) : Result := loadReg .H (s.getR8 .H) 4 s

/-- `LD H,L`, 0x65 (R120). -/
def execLd_H_L (s : State) : Result := loadReg .H (s.getR8 .L) 4 s

/-- `LD H,(HL)`, 0x66 (R121). -/
def execLd_H_atHL (s : State) : Result := loadRegFrom .H s.hl.value 8 s

/-- `LD H,A`, 0x67 (R120). -/
def execLd_H_A (s : State) : Result := loadReg .H (s.getR8 .A) 4 s

/-- `LD L,B`, 0x68 (R120). -/
def execLd_L_B (s : State) : Result := loadReg .L (s.getR8 .B) 4 s

/-- `LD L,C`, 0x69 (R120). -/
def execLd_L_C (s : State) : Result := loadReg .L (s.getR8 .C) 4 s

/-- `LD L,D`, 0x6A (R120). -/
def execLd_L_D (s : State) : Result := loadReg .L (s.getR8 .D) 4 s

/-- `LD L,E`, 0x6B (R120). -/
def execLd_L_E (s : State) : Result := loadReg .L (s.getR8 .E) 4 s

/-- `LD L,H`, 0x6C (R120). -/
def execLd_L_H (s : State) : Result := loadReg .L (s.getR8 .H) 4 s

/-- `LD L,L`, 0x6D (R120). -/
def execLd_L_L (s : State) : Result := loadReg .L (s.getR8 .L) 4 s

/-- `LD L,(HL)`, 0x6E (R121). -/
def execLd_L_atHL (s : State) : Result := loadRegFrom .L s.hl.value 8 s

/-- `LD L,A`, 0x6F (R120). -/
def execLd_L_A (s : State) : Result := loadReg .L (s.getR8 .A) 4 s

/-- `LD (HL),B`, 0x70 (R122). -/
def execLd_atHL_B (s : State) : Result := storeByte s.hl.value (s.getR8 .B) 8 s

/-- `LD (HL),C`, 0x71 (R122). -/
def execLd_atHL_C (s : State) : Result := storeByte s.hl.value (s.getR8 .C) 8 s

/-- `LD (HL),D`, 0x72 (R122). -/
def execLd_atHL_D (s : State) : Result := storeByte s.hl.value (s.getR8 .D) 8 s

/-- `LD (HL),E`, 0x73 (R122). -/
def execLd_atHL_E (s : State) : Result := storeByte s.hl.value (s.getR8 .E) 8 s

/-- `LD (HL),H`, 0x74 (R122). -/
def execLd_atHL_H (s : State) : Result := storeByte s.hl.value (s.getR8 .H) 8 s

/-- `LD (HL),L`, 0x75 (R122). -/
def execLd_atHL_L (s : State) : Result := storeByte s.hl.value (s.getR8 .L) 8 s

/-- `LD (HL),A`, 0x77 (R122). -/
def execLd_atHL_A (s : State) : Result := storeByte s.hl.value (s.getR8 .A) 8 s

/-- `LD A,B`, 0x78 (R120). -/
def execLd_A_B (s : State) : Result := loadReg .A (s.getR8 .B) 4 s

/-- `LD A,C`, 0x79 (R120). -/
def execLd_A_C (s : State) : Result := loadReg .A (s.getR8 .C) 4 s

/-- `LD A,D`, 0x7A (R120). -/
def execLd_A_D (s : State) : Result := loadReg .A (s.getR8 .D) 4 s

/-- `LD A,E`, 0x7B (R120). -/
def execLd_A_E (s : State) : Result := loadReg .A (s.getR8 .E) 4 s

/-- `LD A,H`, 0x7C (R120). -/
def execLd_A_H (s : State) : Result := loadReg .A (s.getR8 .H) 4 s

/-- `LD A,L`, 0x7D (R120). -/
def execLd_A_L (s : State) : Result := loadReg .A (s.getR8 .L) 4 s

/-- `LD A,(HL)`, 0x7E (R121). -/
def execLd_A_atHL (s : State) : Result := loadRegFrom .A s.hl.value 8 s

/-- `LD A,A`, 0x7F (R120). -/
def execLd_A_A (s : State) : Result := loadReg .A (s.getR8 .A) 4 s

/-- `LDH (a8),A`, 0xE0 (R133). -/
def execLdh_atA8_A (a8 : Byte) (s : State) : Result := storeByte (highPage a8) (s.getR8 .A) 12 s

/-- `LD (C),A`, 0xE2 (R135). -/
def execLd_atC_A (s : State) : Result := storeByte (highPage (s.getR8 .C)) (s.getR8 .A) 8 s

/-- `LD (a16),A`, 0xEA (R137). -/
def execLd_atA16_A (a16 : Word) (s : State) : Result := storeByte a16 (s.getR8 .A) 16 s

/-- `LDH A,(a8)`, 0xF0 (R134). -/
def execLdh_A_atA8 (a8 : Byte) (s : State) : Result := loadRegFrom .A (highPage a8) 12 s

/-- `LD A,(C)`, 0xF2 (R136). -/
def execLd_A_atC (s : State) : Result := loadRegFrom .A (highPage (s.getR8 .C)) 8 s

/-- `LD A,(a16)`, 0xFA (R138). -/
def execLd_A_atA16 (a16 : Word) (s : State) : Result := loadRegFrom .A a16 16 s

end Sys2Proof.Machine
end

