-- ==== Sys2Proof/Machine/ResOps.lean ====
section
/-! DEFINITION. RES (R232). -/

namespace Sys2Proof.Machine

/-- `RES b` where it is live: no flag changes. -/
def clearBit (b : Nat) (o : Operand8) (s : State) : Result := liveOrStub o (liveRes b o) s

/-- `RES 0,B`, CB 80 (R232). -/
def execRes_0_B (s : State) : Result := clearBit 0 (.reg .B) s

/-- `RES 0,C`, CB 81 (R232). -/
def execRes_0_C (s : State) : Result := clearBit 0 (.reg .C) s

/-- `RES 0,D`, CB 82 (R232). -/
def execRes_0_D (s : State) : Result := clearBit 0 (.reg .D) s

/-- `RES 0,E`, CB 83 (R232). -/
def execRes_0_E (s : State) : Result := clearBit 0 (.reg .E) s

/-- `RES 0,H`, CB 84 (R232). -/
def execRes_0_H (s : State) : Result := clearBit 0 (.reg .H) s

/-- `RES 0,L`, CB 85 (R232). -/
def execRes_0_L (s : State) : Result := clearBit 0 (.reg .L) s

/-- `RES 0,(HL)`, CB 86 (R232). -/
def execRes_0_atHL (s : State) : Result := clearBit 0 .atHL s

/-- `RES 0,A`, CB 87 (R232). -/
def execRes_0_A (s : State) : Result := clearBit 0 (.reg .A) s

/-- `RES 1,B`, CB 88 (R232). -/
def execRes_1_B (s : State) : Result := clearBit 1 (.reg .B) s

/-- `RES 1,C`, CB 89 (R232). -/
def execRes_1_C (s : State) : Result := clearBit 1 (.reg .C) s

/-- `RES 1,D`, CB 8A (R232). -/
def execRes_1_D (s : State) : Result := clearBit 1 (.reg .D) s

/-- `RES 1,E`, CB 8B (R232). -/
def execRes_1_E (s : State) : Result := clearBit 1 (.reg .E) s

/-- `RES 1,H`, CB 8C (R232). -/
def execRes_1_H (s : State) : Result := clearBit 1 (.reg .H) s

/-- `RES 1,L`, CB 8D (R232). -/
def execRes_1_L (s : State) : Result := clearBit 1 (.reg .L) s

/-- `RES 1,(HL)`, CB 8E (R232). -/
def execRes_1_atHL (s : State) : Result := clearBit 1 .atHL s

/-- `RES 1,A`, CB 8F (R232). -/
def execRes_1_A (s : State) : Result := clearBit 1 (.reg .A) s

/-- `RES 2,B`, CB 90 (R232). -/
def execRes_2_B (s : State) : Result := clearBit 2 (.reg .B) s

/-- `RES 2,C`, CB 91 (R232). -/
def execRes_2_C (s : State) : Result := clearBit 2 (.reg .C) s

/-- `RES 2,D`, CB 92 (R232). -/
def execRes_2_D (s : State) : Result := clearBit 2 (.reg .D) s

/-- `RES 2,E`, CB 93 (R232). -/
def execRes_2_E (s : State) : Result := clearBit 2 (.reg .E) s

/-- `RES 2,H`, CB 94 (R232). -/
def execRes_2_H (s : State) : Result := clearBit 2 (.reg .H) s

/-- `RES 2,L`, CB 95 (R232). -/
def execRes_2_L (s : State) : Result := clearBit 2 (.reg .L) s

/-- `RES 2,(HL)`, CB 96 (R232). -/
def execRes_2_atHL (s : State) : Result := clearBit 2 .atHL s

/-- `RES 2,A`, CB 97 (R232). -/
def execRes_2_A (s : State) : Result := clearBit 2 (.reg .A) s

/-- `RES 3,B`, CB 98 (R232). -/
def execRes_3_B (s : State) : Result := clearBit 3 (.reg .B) s

/-- `RES 3,C`, CB 99 (R232). -/
def execRes_3_C (s : State) : Result := clearBit 3 (.reg .C) s

/-- `RES 3,D`, CB 9A (R232). -/
def execRes_3_D (s : State) : Result := clearBit 3 (.reg .D) s

/-- `RES 3,E`, CB 9B (R232). -/
def execRes_3_E (s : State) : Result := clearBit 3 (.reg .E) s

/-- `RES 3,H`, CB 9C (R232). -/
def execRes_3_H (s : State) : Result := clearBit 3 (.reg .H) s

/-- `RES 3,L`, CB 9D (R232). -/
def execRes_3_L (s : State) : Result := clearBit 3 (.reg .L) s

/-- `RES 3,(HL)`, CB 9E (R232). -/
def execRes_3_atHL (s : State) : Result := clearBit 3 .atHL s

/-- `RES 3,A`, CB 9F (R232). -/
def execRes_3_A (s : State) : Result := clearBit 3 (.reg .A) s

/-- `RES 4,B`, CB A0 (R232). -/
def execRes_4_B (s : State) : Result := clearBit 4 (.reg .B) s

/-- `RES 4,C`, CB A1 (R232). -/
def execRes_4_C (s : State) : Result := clearBit 4 (.reg .C) s

/-- `RES 4,D`, CB A2 (R232). -/
def execRes_4_D (s : State) : Result := clearBit 4 (.reg .D) s

/-- `RES 4,E`, CB A3 (R232). -/
def execRes_4_E (s : State) : Result := clearBit 4 (.reg .E) s

/-- `RES 4,H`, CB A4 (R232). -/
def execRes_4_H (s : State) : Result := clearBit 4 (.reg .H) s

/-- `RES 4,L`, CB A5 (R232). -/
def execRes_4_L (s : State) : Result := clearBit 4 (.reg .L) s

/-- `RES 4,(HL)`, CB A6 (R232). -/
def execRes_4_atHL (s : State) : Result := clearBit 4 .atHL s

/-- `RES 4,A`, CB A7 (R232). -/
def execRes_4_A (s : State) : Result := clearBit 4 (.reg .A) s

/-- `RES 5,B`, CB A8 (R232). -/
def execRes_5_B (s : State) : Result := clearBit 5 (.reg .B) s

/-- `RES 5,C`, CB A9 (R232). -/
def execRes_5_C (s : State) : Result := clearBit 5 (.reg .C) s

/-- `RES 5,D`, CB AA (R232). -/
def execRes_5_D (s : State) : Result := clearBit 5 (.reg .D) s

/-- `RES 5,E`, CB AB (R232). -/
def execRes_5_E (s : State) : Result := clearBit 5 (.reg .E) s

/-- `RES 5,H`, CB AC (R232). -/
def execRes_5_H (s : State) : Result := clearBit 5 (.reg .H) s

/-- `RES 5,L`, CB AD (R232). -/
def execRes_5_L (s : State) : Result := clearBit 5 (.reg .L) s

/-- `RES 5,(HL)`, CB AE (R232). -/
def execRes_5_atHL (s : State) : Result := clearBit 5 .atHL s

/-- `RES 5,A`, CB AF (R232). -/
def execRes_5_A (s : State) : Result := clearBit 5 (.reg .A) s

/-- `RES 6,B`, CB B0 (R232). -/
def execRes_6_B (s : State) : Result := clearBit 6 (.reg .B) s

/-- `RES 6,C`, CB B1 (R232). -/
def execRes_6_C (s : State) : Result := clearBit 6 (.reg .C) s

/-- `RES 6,D`, CB B2 (R232). -/
def execRes_6_D (s : State) : Result := clearBit 6 (.reg .D) s

/-- `RES 6,E`, CB B3 (R232). -/
def execRes_6_E (s : State) : Result := clearBit 6 (.reg .E) s

/-- `RES 6,H`, CB B4 (R232). -/
def execRes_6_H (s : State) : Result := clearBit 6 (.reg .H) s

/-- `RES 6,L`, CB B5 (R232). -/
def execRes_6_L (s : State) : Result := clearBit 6 (.reg .L) s

/-- `RES 6,(HL)`, CB B6 (R232). -/
def execRes_6_atHL (s : State) : Result := clearBit 6 .atHL s

/-- `RES 6,A`, CB B7 (R232). -/
def execRes_6_A (s : State) : Result := clearBit 6 (.reg .A) s

/-- `RES 7,B`, CB B8 (R232). -/
def execRes_7_B (s : State) : Result := clearBit 7 (.reg .B) s

/-- `RES 7,C`, CB B9 (R232). -/
def execRes_7_C (s : State) : Result := clearBit 7 (.reg .C) s

/-- `RES 7,D`, CB BA (R232). -/
def execRes_7_D (s : State) : Result := clearBit 7 (.reg .D) s

/-- `RES 7,E`, CB BB (R232). -/
def execRes_7_E (s : State) : Result := clearBit 7 (.reg .E) s

/-- `RES 7,H`, CB BC (R232). -/
def execRes_7_H (s : State) : Result := clearBit 7 (.reg .H) s

/-- `RES 7,L`, CB BD (R232). -/
def execRes_7_L (s : State) : Result := clearBit 7 (.reg .L) s

/-- `RES 7,(HL)`, CB BE (R232). -/
def execRes_7_atHL (s : State) : Result := clearBit 7 .atHL s

/-- `RES 7,A`, CB BF (R232). -/
def execRes_7_A (s : State) : Result := clearBit 7 (.reg .A) s

end Sys2Proof.Machine
end

