-- ==== Sys2Proof/Machine/Rotate.lean ====
section
/-! DEFINITION. Accumulator rotates and flag-only instructions (45_rotates_flags.md). The rotates set Z from the result (decision D5, log 15). -/

namespace Sys2Proof.Machine

/-- `RLCA`, `RLA`, `RRCA`, `RRA` (R201 to R204). -/
def rotateA (op : RotOp) (s : State) : Result :=
  finish 4 ((s.setR8 .A (rotate op (s.getR8 .A) s.fC).1).setFlags (rotFlags (rotate op (s.getR8 .A) s.fC)))

/-- `RLCA`, 0x07 (R201). -/
def execRlca (s : State) : Result := rotateA .RLC s

/-- `RRCA`, 0x0F (R203). -/
def execRrca (s : State) : Result := rotateA .RRC s

/-- `RLA`, 0x17 (R202). -/
def execRla (s : State) : Result := rotateA .RL s

/-- `RRA`, 0x1F (R204). -/
def execRra (s : State) : Result := rotateA .RR s

/-- `CPL`, 0x2F (R205). -/
def execCpl (s : State) : Result := finish 4 ((s.setR8 .A (~~~s.getR8 .A)).setFlags { z := s.fZ, n := true, h := true, c := s.fC })

/-- `SCF`, 0x37 (R206). -/
def execScf (s : State) : Result := finish 4 (s.setFlags { z := s.fZ, n := false, h := false, c := true })

/-- `CCF`, 0x3F (R207). -/
def execCcf (s : State) : Result := finish 4 (s.setFlags { z := s.fZ, n := false, h := false, c := !s.fC })

end Sys2Proof.Machine
end

