-- ==== Sys2Proof/Machine/SetOps.lean ====
section
/-! DEFINITION. SET (R233). -/

namespace Sys2Proof.Machine

/-- `SET b` where it is live: no flag changes. -/
def raiseBit (b : Nat) (o : Operand8) (s : State) : Result := liveOrStub o (liveSet b o) s

/-- `SET 0,B`, CB C0 (R233). -/
def execSet_0_B (s : State) : Result := raiseBit 0 (.reg .B) s

/-- `SET 0,C`, CB C1 (R233). -/
def execSet_0_C (s : State) : Result := raiseBit 0 (.reg .C) s

/-- `SET 0,D`, CB C2 (R233). -/
def execSet_0_D (s : State) : Result := raiseBit 0 (.reg .D) s

/-- `SET 0,E`, CB C3 (R233). -/
def execSet_0_E (s : State) : Result := raiseBit 0 (.reg .E) s

/-- `SET 0,H`, CB C4 (R233). -/
def execSet_0_H (s : State) : Result := raiseBit 0 (.reg .H) s

/-- `SET 0,L`, CB C5 (R233). -/
def execSet_0_L (s : State) : Result := raiseBit 0 (.reg .L) s

/-- `SET 0,(HL)`, CB C6 (R233). -/
def execSet_0_atHL (s : State) : Result := raiseBit 0 .atHL s

/-- `SET 0,A`, CB C7 (R233). -/
def execSet_0_A (s : State) : Result := raiseBit 0 (.reg .A) s

/-- `SET 1,B`, CB C8 (R233). -/
def execSet_1_B (s : State) : Result := raiseBit 1 (.reg .B) s

/-- `SET 1,C`, CB C9 (R233). -/
def execSet_1_C (s : State) : Result := raiseBit 1 (.reg .C) s

/-- `SET 1,D`, CB CA (R233). -/
def execSet_1_D (s : State) : Result := raiseBit 1 (.reg .D) s

/-- `SET 1,E`, CB CB (R233). -/
def execSet_1_E (s : State) : Result := raiseBit 1 (.reg .E) s

/-- `SET 1,H`, CB CC (R233). -/
def execSet_1_H (s : State) : Result := raiseBit 1 (.reg .H) s

/-- `SET 1,L`, CB CD (R233). -/
def execSet_1_L (s : State) : Result := raiseBit 1 (.reg .L) s

/-- `SET 1,(HL)`, CB CE (R233). -/
def execSet_1_atHL (s : State) : Result := raiseBit 1 .atHL s

/-- `SET 1,A`, CB CF (R233). -/
def execSet_1_A (s : State) : Result := raiseBit 1 (.reg .A) s

/-- `SET 2,B`, CB D0 (R233). -/
def execSet_2_B (s : State) : Result := raiseBit 2 (.reg .B) s

/-- `SET 2,C`, CB D1 (R233). -/
def execSet_2_C (s : State) : Result := raiseBit 2 (.reg .C) s

/-- `SET 2,D`, CB D2 (R233). -/
def execSet_2_D (s : State) : Result := raiseBit 2 (.reg .D) s

/-- `SET 2,E`, CB D3 (R233). -/
def execSet_2_E (s : State) : Result := raiseBit 2 (.reg .E) s

/-- `SET 2,H`, CB D4 (R233). -/
def execSet_2_H (s : State) : Result := raiseBit 2 (.reg .H) s

/-- `SET 2,L`, CB D5 (R233). -/
def execSet_2_L (s : State) : Result := raiseBit 2 (.reg .L) s

/-- `SET 2,(HL)`, CB D6 (R233). -/
def execSet_2_atHL (s : State) : Result := raiseBit 2 .atHL s

/-- `SET 2,A`, CB D7 (R233). -/
def execSet_2_A (s : State) : Result := raiseBit 2 (.reg .A) s

/-- `SET 3,B`, CB D8 (R233). -/
def execSet_3_B (s : State) : Result := raiseBit 3 (.reg .B) s

/-- `SET 3,C`, CB D9 (R233). -/
def execSet_3_C (s : State) : Result := raiseBit 3 (.reg .C) s

/-- `SET 3,D`, CB DA (R233). -/
def execSet_3_D (s : State) : Result := raiseBit 3 (.reg .D) s

/-- `SET 3,E`, CB DB (R233). -/
def execSet_3_E (s : State) : Result := raiseBit 3 (.reg .E) s

/-- `SET 3,H`, CB DC (R233). -/
def execSet_3_H (s : State) : Result := raiseBit 3 (.reg .H) s

/-- `SET 3,L`, CB DD (R233). -/
def execSet_3_L (s : State) : Result := raiseBit 3 (.reg .L) s

/-- `SET 3,(HL)`, CB DE (R233). -/
def execSet_3_atHL (s : State) : Result := raiseBit 3 .atHL s

/-- `SET 3,A`, CB DF (R233). -/
def execSet_3_A (s : State) : Result := raiseBit 3 (.reg .A) s

/-- `SET 4,B`, CB E0 (R233). -/
def execSet_4_B (s : State) : Result := raiseBit 4 (.reg .B) s

/-- `SET 4,C`, CB E1 (R233). -/
def execSet_4_C (s : State) : Result := raiseBit 4 (.reg .C) s

/-- `SET 4,D`, CB E2 (R233). -/
def execSet_4_D (s : State) : Result := raiseBit 4 (.reg .D) s

/-- `SET 4,E`, CB E3 (R233). -/
def execSet_4_E (s : State) : Result := raiseBit 4 (.reg .E) s

/-- `SET 4,H`, CB E4 (R233). -/
def execSet_4_H (s : State) : Result := raiseBit 4 (.reg .H) s

/-- `SET 4,L`, CB E5 (R233). -/
def execSet_4_L (s : State) : Result := raiseBit 4 (.reg .L) s

/-- `SET 4,(HL)`, CB E6 (R233). -/
def execSet_4_atHL (s : State) : Result := raiseBit 4 .atHL s

/-- `SET 4,A`, CB E7 (R233). -/
def execSet_4_A (s : State) : Result := raiseBit 4 (.reg .A) s

/-- `SET 5,B`, CB E8 (R233). -/
def execSet_5_B (s : State) : Result := raiseBit 5 (.reg .B) s

/-- `SET 5,C`, CB E9 (R233). -/
def execSet_5_C (s : State) : Result := raiseBit 5 (.reg .C) s

/-- `SET 5,D`, CB EA (R233). -/
def execSet_5_D (s : State) : Result := raiseBit 5 (.reg .D) s

/-- `SET 5,E`, CB EB (R233). -/
def execSet_5_E (s : State) : Result := raiseBit 5 (.reg .E) s

/-- `SET 5,H`, CB EC (R233). -/
def execSet_5_H (s : State) : Result := raiseBit 5 (.reg .H) s

/-- `SET 5,L`, CB ED (R233). -/
def execSet_5_L (s : State) : Result := raiseBit 5 (.reg .L) s

/-- `SET 5,(HL)`, CB EE (R233). -/
def execSet_5_atHL (s : State) : Result := raiseBit 5 .atHL s

/-- `SET 5,A`, CB EF (R233). -/
def execSet_5_A (s : State) : Result := raiseBit 5 (.reg .A) s

/-- `SET 6,B`, CB F0 (R233). -/
def execSet_6_B (s : State) : Result := raiseBit 6 (.reg .B) s

/-- `SET 6,C`, CB F1 (R233). -/
def execSet_6_C (s : State) : Result := raiseBit 6 (.reg .C) s

/-- `SET 6,D`, CB F2 (R233). -/
def execSet_6_D (s : State) : Result := raiseBit 6 (.reg .D) s

/-- `SET 6,E`, CB F3 (R233). -/
def execSet_6_E (s : State) : Result := raiseBit 6 (.reg .E) s

/-- `SET 6,H`, CB F4 (R233). -/
def execSet_6_H (s : State) : Result := raiseBit 6 (.reg .H) s

/-- `SET 6,L`, CB F5 (R233). -/
def execSet_6_L (s : State) : Result := raiseBit 6 (.reg .L) s

/-- `SET 6,(HL)`, CB F6 (R233). -/
def execSet_6_atHL (s : State) : Result := raiseBit 6 .atHL s

/-- `SET 6,A`, CB F7 (R233). -/
def execSet_6_A (s : State) : Result := raiseBit 6 (.reg .A) s

/-- `SET 7,B`, CB F8 (R233). -/
def execSet_7_B (s : State) : Result := raiseBit 7 (.reg .B) s

/-- `SET 7,C`, CB F9 (R233). -/
def execSet_7_C (s : State) : Result := raiseBit 7 (.reg .C) s

/-- `SET 7,D`, CB FA (R233). -/
def execSet_7_D (s : State) : Result := raiseBit 7 (.reg .D) s

/-- `SET 7,E`, CB FB (R233). -/
def execSet_7_E (s : State) : Result := raiseBit 7 (.reg .E) s

/-- `SET 7,H`, CB FC (R233). -/
def execSet_7_H (s : State) : Result := raiseBit 7 (.reg .H) s

/-- `SET 7,L`, CB FD (R233). -/
def execSet_7_L (s : State) : Result := raiseBit 7 (.reg .L) s

/-- `SET 7,(HL)`, CB FE (R233). -/
def execSet_7_atHL (s : State) : Result := raiseBit 7 .atHL s

/-- `SET 7,A`, CB FF (R233). -/
def execSet_7_A (s : State) : Result := raiseBit 7 (.reg .A) s

end Sys2Proof.Machine
end

