-- ==== Sys2Proof/Machine/System.lean ====
section
/-! DEFINITION. System instructions and the unassigned values (46_system.md). -/

namespace Sys2Proof.Machine

/-- `NOP`, 0x00 (R210). -/
def execNop (s : State) : Result := finish 4 s

/-- the unassigned values (R215, R216). -/
def execUnassigned (op : Byte) (s : State) : Result := raiseUndefinedOpcode s op

/-- `HALT`, 0x76 (R211). -/
def execHalt (s : State) : Result := finish 4 (s.setHalted true)

/-- `DI`, 0xF3 (R212). -/
def execDi (s : State) : Result := finish 4 (s.setIme false)

/-- `EI`, 0xFB (R213). -/
def execEi (s : State) : Result := finish 4 (s.setIme true)

end Sys2Proof.Machine
end

