-- ==== Sys2Proof/Machine/Step.lean ====
section
/-! DEFINITION. One step of the machine (R80, R5): the collaborator's move if one comes first, else the CPU's step. -/

namespace Sys2Proof.Machine

/-- One call of `interpret_opcode` (R80). -/
def cpuStep (s : State) : Host.Outcome State Fault Refusal :=
  if s.halted then stall s
  else
    match fetchInstr s with
    | .error f => .fault f
    | .ok (i, s') => exec i s'

/-- One step of whichever agent's turn it is (R5, R250, R253): moves stand between CPU steps, never inside one. -/
def step (s : State) : Host.Outcome State Fault Refusal :=
  match takeTurn s with
  | (.cpu, s') => cpuStep s'
  | (.wake, s') => .next (wake s')
  | (.dispatch v, s') => .next (dispatch v s')

/-- `s` with the instruction whose bits spec/opcode_table.json numbers as `w` placed where the next fetch reads it, and nothing standing before
that fetch (log 12). -/
def State.withFetchWord (s : State) (nbits w : Nat) : State :=
  placeBytes (readyToFetch s) s.pc (tableBytes nbits w)

end Sys2Proof.Machine
end

