-- ==== Sys2Proof/Machine/Load.lean ====
section
/-! DEFINITION. Construction: the load of a cartridge image with its checks, then the CPU (R31, R243, R270, R274). -/

namespace Sys2Proof.Machine

/-- The lengths an image may have: the powers of two from 0x200 to 0x200000 (R24, decision D23). -/
def legalRomLens : List Nat :=
  [0x200, 0x400, 0x800, 0x1000, 0x2000, 0x4000, 0x8000, 0x10000, 0x20000, 0x40000, 0x80000, 0x100000, 0x200000]

/-- The banking type the header byte names (R21). -/
def classify (v : Byte) : Option BankingType :=
  if v.toNat = 0 then some .None
  else if v.toNat ≤ 3 then some .MBC1
  else if v.toNat ≤ 6 then some .MBC2
  else none

/-- The state after a successful load and the CPU's construction (R30, R31), with the launch parameters P1 to P6 of R8 given. -/
def constructed (len : Nat) (image ramInit platInit : Memory) (behaviour : PlatBehaviour) (mode : CbMode) (vectors : List Word)
    (agent : Option (List Turn)) (t : BankingType) : State :=
  { State.reset with
    bankingType := t
    rom := image
    romLen := len
    ramBanks := ramInit
    plat := platInit
    platBehaviour := behaviour
    cbMode := mode
    intVectors := vectors
    intAgent := agent }

/-- Load (R243): `none` is a ROM file that cannot be read (log 13); the size is checked before the header. -/
def load (file : Option (Nat × Memory)) (ramInit platInit : Memory) (behaviour : PlatBehaviour) (mode : CbMode) (vectors : List Word)
    (agent : Option (List Turn)) : Result :=
  match file with
  | none => .fault .romUnreadable
  | some (len, image) =>
    if len ∈ legalRomLens then
      match classify (image.read Config.headerOffset) with
      | none => .fault (.unsupportedBankingType (image.read Config.headerOffset))
      | some t => .next (constructed len image ramInit platInit behaviour mode vectors agent t)
    else .fault (.romSizeInvalid len)

end Sys2Proof.Machine
end

