-- ==== Sys2Proof/Safety.lean ====
section
/-! DEFINITION. What holds of every state a machine can be in, when a run has ended, and what an instruction may touch: the terms in which
claims about steps are made. -/

namespace Sys2Proof.Machine

/-- Every listed offset satisfies `p`. -/
def Memory.within (p : Nat → Bool) (m : Memory) : Bool := m.all fun c => p c.1

/-- F[3:0] = 0 (R14). -/
abbrev State.FlagNibbleClear (s : State) : Prop := s.af.lo.extractLsb' 0 4 = 0

/-- The bank registers hold legal values (R22, R23, R53, R54). -/
abbrev State.BanksLegal (s : State) : Prop :=
  s.currentRomBank ≠ 0 ∧
  (s.romBankingMode = true → s.currentRamBank = 0) ∧
  (s.bankingType = .MBC2 → s.currentRomBank.toNat ≤ 0x0F ∧ s.romBankingMode = true) ∧
  (s.bankingType = .None → s.currentRomBank = 1 ∧ s.romBankingMode = true ∧ s.ramWriteEnabled = false)

/-- The three byte stores are in canonical form, each within its own range (R24, R26, R47). -/
abbrev State.StoresLegal (s : State) : Prop :=
  s.rom.wf = true ∧ s.rom.within (fun a => decide (a < s.romLen)) = true ∧
  s.ramBanks.wf = true ∧ s.ramBanks.within (fun a => decide (a < Config.ramPoolSize)) = true ∧
  s.plat.wf = true ∧ s.plat.within inPlatform = true

/-- The image is one that can load, and the banking type is the one its header names (R21, R24). -/
abbrev State.ImageLegal (s : State) : Prop :=
  s.romLen ∈ legalRomLens ∧ classify (s.rom.read Config.headerOffset) = some s.bankingType

/-- What holds of every state between steps. -/
abbrev State.Inv (s : State) : Prop := s.FlagNibbleClear ∧ s.BanksLegal ∧ s.StoresLegal ∧ s.ImageLegal

/-- A run has ended successfully (R284): halted, with no collaborator to wake the CPU. -/
abbrev State.Ended (s : State) : Prop := s.halted = true ∧ s.intAgent = none

/-- Both ROM windows lie in the image with the bank selected now: the precondition R244 names, under which no bus read aborts. -/
abbrev State.WindowsInImage (s : State) : Prop :=
  Config.romBankSize ≤ s.romLen ∧ (s.currentRomBank.toNat + 1) * Config.romBankSize ≤ s.romLen

/-! ### What may change -/

/-- What an instruction may touch: 8-bit registers, SP, F, PC, IME, halted, and the bus, by its accesses in order (R60). -/
structure Touch where
  r8 : List Reg8 := []
  sp : Bool := false
  flags : Bool := false
  pc : Bool := false
  ime : Bool := false
  halted : Bool := false
  accesses : List BusAccess := []

/-- The address an access stores to. -/
def storedAddress : BusAccess → Option Word
  | .read _ => none
  | .write a _ => some a

/-- The addresses stored to by the accesses. -/
def storesOf (accesses : List BusAccess) : List Word := accesses.filterMap storedAddress

/-- The platform after accesses in order: flat RAM stays flat RAM, an oracle has seen those that reach it (R47, R60). -/
def PlatBehaviour.afterAll (p : PlatBehaviour) (accesses : List BusAccess) : PlatBehaviour := accesses.foldl PlatBehaviour.note p

/-- The bus, as another state leaves it: RAM pool, platform memory, bank registers. (What an oracle has seen is `PlatBehaviour.afterAll`.) -/
def SameBus (t u : State) : Prop :=
  t.plat = u.plat ∧ t.ramBanks = u.ramBanks ∧ t.currentRomBank = u.currentRomBank ∧
  t.currentRamBank = u.currentRamBank ∧ t.romBankingMode = u.romBankingMode ∧ t.ramWriteEnabled = u.ramWriteEnabled

/-- Nothing is stored outside `stores`: the image never changes; where no store is a control write, the bank registers stay and every address
outside `stores` reads as before, but for the addresses of an oracle that has seen an access; in every case every byte of platform memory outside
`stores` stays, so does every byte of the RAM pool, of the banks not selected too, that no store in its window reaches, and the pool as a whole
when no store falls in its window. -/
def KeepsMemory (stores : List Word) (s t : State) : Prop :=
  t.rom = s.rom ∧ t.romLen = s.romLen ∧
  ((∀ b ∈ stores, 0x8000 ≤ b.toNat) →
    t.currentRomBank = s.currentRomBank ∧ t.currentRamBank = s.currentRamBank ∧
    t.romBankingMode = s.romBankingMode ∧ t.ramWriteEnabled = s.ramWriteEnabled ∧
    ∀ a, a ∉ stores → inPlatform a.toNat = false ∨ t.platBehaviour = s.platBehaviour → busRead t a = busRead s a) ∧
  (∀ off, (∀ b ∈ stores, b.toNat ≠ off) → t.plat.read off = s.plat.read off) ∧
  (∀ off, (∀ b ∈ stores, 0xA000 ≤ b.toNat → b.toNat < 0xC000 → s.currentRamBank.toNat * 0x2000 + (b.toNat - 0xA000) ≠ off) →
    t.ramBanks.read off = s.ramBanks.read off) ∧
  ((∀ b ∈ stores, b.toNat < 0xA000 ∨ 0xC000 ≤ b.toNat) → t.ramBanks = s.ramBanks)

/-- Everything but what `w` lists is as before. -/
def KeepsAllBut (w : Touch) (s t : State) : Prop :=
  (∀ r, r ∉ w.r8 → t.getR8 r = s.getR8 r) ∧
  (w.sp = false → t.sp = s.sp) ∧
  (w.flags = false → t.af.lo = s.af.lo) ∧
  (w.pc = false → t.pc = s.pc) ∧
  (w.ime = false → t.ime = s.ime) ∧
  (w.halted = false → t.halted = s.halted) ∧
  t.bankingType = s.bankingType ∧ t.cbMode = s.cbMode ∧ t.intVectors = s.intVectors ∧ t.intAgent = s.intAgent ∧
  t.platBehaviour = s.platBehaviour.afterAll w.accesses ∧ KeepsMemory (storesOf w.accesses) s t

/-- The four flags after an instruction that writes them, F[3:0] zero (R9, R14). -/
def FlagsAre (t : State) (z n h c : Bool) : Prop :=
  t.fZ = z ∧ t.fN = n ∧ t.fH = h ∧ t.fC = c ∧ t.af.lo.extractLsb' 0 4 = 0

/-- A store to the address is kept by what lies there (R42, R46, R47): a flat RAM, or cartridge RAM that may be written. -/
def Holds (s : State) (a : Word) : Prop :=
  (inPlatform a.toNat = true ∧ s.platBehaviour = .flatRam) ∨ (0xA000 ≤ a.toNat ∧ a.toNat < 0xC000 ∧ s.ramWriteEnabled = true)

end Sys2Proof.Machine
end

