-- ==== Sys2Proof/Certificates/Slice0/Obligations.lean ====
section
/-! DEFINITION. The statements for the provers, `def Obligations.<Name> : Prop` each, and the words they are said in: what an instruction may
touch, the flags after it, and the arithmetic of the spec on plain numbers.

`exec i s` runs `i` where PC is past all its bytes, so "PC unchanged" below means that the next instruction follows; the statement
`StepRunsTheDecodedInstruction` adds the advance of PC. A frame `KeepsAllBut` names the bus accesses in order: they say what is stored, and what an
oracle at the platform addresses has seen (log 6); where the platform is flat RAM, the reads among them change nothing. -/

namespace Sys2Proof.Machine

/-- The 8-bit halves of a pair of `r16`; SP has none with a name (R12). -/
def halves : Reg16 → List Reg8
  | .BC => [.B, .C]
  | .DE => [.D, .E]
  | .HL => [.H, .L]
  | .SP => []

/-- The pairs `PUSH` and `POP` share with `r16` (R84): all but AF. -/
def stackedPair : Reg16 → Option Reg16s
  | .BC => some .BC
  | .DE => some .DE
  | .HL => some .HL
  | .SP => none

/-! ### The fields of an encoding, as the spec numbers them -/

/-- Field `r` (R83). -/
def rField : Reg8 → Nat
  | .B => 0
  | .C => 1
  | .D => 2
  | .E => 3
  | .H => 4
  | .L => 5
  | .A => 7

/-- Field `r`, 6 for (HL) (R83). -/
def zField : Operand8 → Nat
  | .reg r => rField r
  | .atHL => 6

/-- Field `rr` (R84). -/
def rrField : Reg16 → Nat
  | .BC => 0
  | .DE => 1
  | .HL => 2
  | .SP => 3

/-- Field `rr` of `PUSH` and `POP` (R84). -/
def rrsField : Reg16s → Nat
  | .BC => 0
  | .DE => 1
  | .HL => 2
  | .AF => 3

/-- Field `cc` (R85). -/
def ccField : Cond → Nat
  | .NZ => 0
  | .Z => 1
  | .NC => 2
  | .C => 3

/-- Field `alu` (R86). -/
def aluField : AluOp → Nat
  | .ADD => 0
  | .ADC => 1
  | .SUB => 2
  | .SBC => 3
  | .AND => 4
  | .XOR => 5
  | .OR => 6
  | .CP => 7

/-- The operation field of extended group 0 (R87). -/
def xopField : RotOp → Nat
  | .RLC => 0
  | .RRC => 1
  | .RL => 2
  | .RR => 3
  | .SLA => 4
  | .SRA => 5
  | .SWAP => 6
  | .SRL => 7

/-- An opcode byte by its number. -/
def opc (n : Nat) : Byte := BitVec.ofNat 8 n

/-- The bytes of an accumulator operation (R180). -/
def aluBytes (op : AluOp) : AluSrc → List Byte
  | .reg r => [opc (0x80 + 8 * aluField op + rField r)]
  | .atHL => [opc (0x86 + 8 * aluField op)]
  | .imm d8 => [opc (0xC6 + 8 * aluField op), d8]

/-! ### The spec's arithmetic on numbers -/

/-- The carry flag as a number. -/
def carryOf (s : State) : Nat := if s.fC then 1 else 0

/-- Result and bit moved out of a rotate, shift or swap of a number below 0x100, with the carry-in (R200, R227 to R230). -/
def rotated : RotOp → Nat → Nat → Nat × Bool
  | .RLC, v, _ => ((2 * v + v / 0x80) % 0x100, decide (0x80 ≤ v))
  | .RRC, v, _ => (v / 2 + 0x80 * (v % 2), decide (v % 2 = 1))
  | .RL, v, cin => ((2 * v + cin) % 0x100, decide (0x80 ≤ v))
  | .RR, v, cin => (v / 2 + 0x80 * cin, decide (v % 2 = 1))
  | .SLA, v, _ => (2 * v % 0x100, decide (0x80 ≤ v))
  | .SRA, v, _ => (v / 2 + 0x80 * (v / 0x80), decide (v % 2 = 1))
  | .SWAP, v, _ => (v % 0x10 * 0x10 + v / 0x10, false)
  | .SRL, v, _ => (v / 2, decide (v % 2 = 1))

/-- Bit `b` of a number. -/
def bitOf (v b : Nat) : Nat := v / 2 ^ b % 2

/-- Whether a condition holds, by the bits of F (R85, R160). -/
def holdsOf (s : State) : Cond → Bool
  | .NZ => decide (bitOf s.af.lo.toNat 7 = 0)
  | .Z => decide (bitOf s.af.lo.toNat 7 = 1)
  | .NC => decide (bitOf s.af.lo.toNat 4 = 0)
  | .C => decide (bitOf s.af.lo.toNat 4 = 1)

/-- The value of a displacement, -128 to 127 (R88). -/
def displacement (e : Byte) : Int := if e.toNat < 0x80 then (e.toNat : Int) else (e.toNat : Int) - 0x100

/-- Two packed decimal digits of a number below 100 (R191). -/
def packed (n : Nat) : Byte := BitVec.ofNat 8 (n / 10 * 0x10 + n % 10)

/-- The number a bank select writes: 0 becomes 1 (R55). -/
def notZero (n : Nat) : Nat := if n = 0 then 1 else n

/-- `t` differs from `s` in the four bank registers at most (R49). -/
def OnlyBanksDiffer (s t : State) : Prop :=
  { t with currentRomBank := s.currentRomBank, currentRamBank := s.currentRamBank,
           romBankingMode := s.romBankingMode, ramWriteEnabled := s.ramWriteEnabled } = s

/-- The bytes from address `a` on, each read after those before it, and the state these reads leave (R60, R81). -/
def BytesRead : State → Word → List Byte → State → Prop
  | s, _, [], t => t = s
  | s, a, b :: bs, t => busRead s a = .ok b ∧ BytesRead (s.noteRead a) (a + 1) bs t

/-- It is the CPU's turn, and `s'` is the state with that turn used up (R250, log 5). -/
def CpuTurn (s s' : State) : Prop := takeTurn s = (.cpu, s')

end Sys2Proof.Machine

open Sys2Proof Sys2Proof.Machine

/-! ## Encoding -/

/-- R82, R83 to R88, R89, R220: no operand bit of any encoding is dropped, and no two instructions share their bytes. -/
def Obligations.DecodeEncodeRoundTrip : Prop :=
  ∀ (i : Instr) (rest : List Byte), i.wellFormed = true → decode (encode i ++ rest) = .ok (i, rest)

/-- The other direction: what the decoder reads is well formed, and its bytes are the bytes read (each value has one meaning, R89, R90). -/
def Obligations.DecodedBytesReencode : Prop :=
  ∀ (bs rest : List Byte) (i : Instr), decode bs = .ok (i, rest) → i.wellFormed = true ∧ encode i ++ rest = bs

/-- Words written out from the encodings of the rules cited decode to the instructions they stand for. -/
def Obligations.SpecWordsDecode : Prop :=
  decode [0x00] = .ok (.nop, []) ∧
  decode [0x3E, 0x05] = .ok (.ld_A_d8 0x05, []) ∧
  decode [0xC6, 0x0B] = .ok (.add_A_d8 0x0B, []) ∧
  decode [0x21, 0x34, 0x12] = .ok (.ld_HL_d16 0x1234, []) ∧
  decode [0x66] = .ok (.ld_H_atHL, []) ∧
  decode [0x20, 0xFB] = .ok (.jr_NZ_e8 0xFB, []) ∧
  decode [0xEF] = .ok (.rst_28, []) ∧
  decode [0xF1] = .ok (.pop_AF, []) ∧
  decode [0xCB, 0xFE] = .ok (.set_7_atHL, []) ∧
  decode [0xCB] = .error (.cutShort 0xCB)

/-- R90: exactly the twelve values it lists are unassigned, whatever bytes follow. -/
def Obligations.UnassignedValuesAreTheTwelve : Prop :=
  ∀ op b1 b2 : Byte, ((∃ v, decodeOp op b1 b2 = .unassigned v) ↔
    op ∈ ([0x10, 0xD3, 0xDB, 0xDD, 0xE3, 0xE4, 0xEB, 0xEC, 0xED, 0xF4, 0xFC, 0xFD] : List Byte)) ∧
    ∀ v, decodeOp op b1 b2 = .unassigned v → v = op

/-! ## The step -/

/-- R80, R81, R88: on the CPU's turn, not halted, where the bytes at PC are those of a well-formed instruction, the step is that instruction run
with PC past its bytes, which are read in address order. -/
def Obligations.StepRunsTheDecodedInstruction : Prop :=
  ∀ (s s' t : State) (i : Instr), CpuTurn s s' → s.halted = false → i.wellFormed = true → BytesRead s' s.pc (encode i) t →
    step s = exec i (t.setPc (s.pc + BitVec.ofNat 16 (encode i).length))

/-- R241: fetching one of the twelve values aborts with the value and the address it was fetched from; run by itself, the instruction aborts on
every state, with the address before PC. -/
def Obligations.UnassignedOpcodeAborts : Prop :=
  (∀ (s s' : State) (op : Byte), CpuTurn s s' → s.halted = false → busRead s s.pc = .ok op → op ∈ unassignedValues →
    step s = .fault (.undefinedOpcode op s.pc)) ∧
  (∀ (op : Byte) (s : State), exec (.unassigned op) s = .fault (.undefinedOpcode op (s.pc - 1)))

/-- R284, R285: a halted step returns 4 and changes nothing else, the turn used up apart; so a run that has ended stays where it is for ever. (The
cost stands in the model's own field `cost`, log 7.) -/
def Obligations.HaltedStepStallsForEver : Prop :=
  (∀ s s' : State, CpuTurn s s' → s.halted = true → step s = .next (s'.setCost 4)) ∧
  ∀ (s : State) (k : Nat), s.Ended → Sys2Proof.core.run (k + 1) s = .next (s.setCost 4)

/-- R241, R242, R244, R245: a step stops for no reason but an unassigned value or a ROM offset beyond the image. -/
def Obligations.StepStopsOnlyByTwoAborts : Prop :=
  ∀ s : State, (∃ t, step s = .next t) ∨
    (∃ value address, value ∈ unassignedValues ∧ step s = .fault (.undefinedOpcode value address)) ∨
    (∃ offset, s.romLen ≤ offset ∧ step s = .fault (.romIndexOutOfRange offset))

/-- R244: where the two windows lie in the image, no bus read aborts; so with no controller, or with MBC2, and every bank that can be selected in
the image, `RomIndexOutOfRange` is unreachable by any step. -/
def Obligations.CoveredImageNeverAbortsOnRom : Prop :=
  (∀ (s : State) (a : Word), s.WindowsInImage → ∃ v, busRead s a = .ok v) ∧
  ∀ (s : State) (offset : Nat), s.Inv →
    (s.bankingType = .None ∧ 0x8000 ≤ s.romLen) ∨ (s.bankingType = .MBC2 ∧ 0x40000 ≤ s.romLen) →
    step s ≠ .fault (.romIndexOutOfRange offset)

/-! ## Invariants -/

/-- Every step, of the CPU or of the collaborator, keeps the invariant: F[3:0] zero, legal bank registers, canonical byte stores within their
ranges, a loadable image of the banking type held. -/
def Obligations.StepKeepsInvariant : Prop :=
  ∀ s t : State, s.Inv → step s = .next t → t.Inv

/-- The state after reset meets the invariant. -/
def Obligations.ResetMeetsInvariant : Prop := State.reset.Inv

/-- R14: F[3:0] = 0 at reset, and every step keeps it. -/
def Obligations.StepKeepsFlagNibbleClear : Prop :=
  State.reset.FlagNibbleClear ∧ ∀ s t : State, s.FlagNibbleClear → step s = .next t → t.FlagNibbleClear

/-- R22: the ROM bank register starts at 1 and is never 0, stays within 1 to 0x0F on MBC2 and at 1 with type None. -/
def Obligations.StepKeepsRomBankLegal : Prop :=
  State.reset.currentRomBank = 1 ∧ State.reset.BanksLegal ∧
  ∀ s t : State, s.BanksLegal → step s = .next t →
    t.BanksLegal ∧ t.currentRomBank ≠ 0 ∧ (t.bankingType = .MBC2 → t.currentRomBank.toNat ≤ 0x0F) ∧
    (t.bankingType = .None → t.currentRomBank = 1)

/-- R21, R24, R42: no step changes the image, the banking type, CB_MODE or the vector set. -/
def Obligations.StepKeepsImageAndParameters : Prop :=
  ∀ s t : State, step s = .next t →
    t.rom = s.rom ∧ t.romLen = s.romLen ∧ t.bankingType = s.bankingType ∧ t.cbMode = s.cbMode ∧ t.intVectors = s.intVectors

/-! ## Reset and load -/

/-- R30: the state after construction. -/
def Obligations.ResetValues : Prop :=
  State.reset.af.value = 0x01B0 ∧ State.reset.bc.value = 0x0013 ∧ State.reset.de.value = 0x00D8 ∧
  State.reset.hl.value = 0x014D ∧ State.reset.sp.value = 0xFFFE ∧ State.reset.pc = 0x0100 ∧
  State.reset.ime = false ∧ State.reset.halted = false ∧
  State.reset.getR8 .A = 0x01 ∧ State.reset.fZ = true ∧ State.reset.fN = false ∧ State.reset.fH = true ∧ State.reset.fC = true

/-- R31, R243: load checks the size, then the header, then gives the state of R30 and R31 with the inputs in place. The `none` that stands for an
unreadable file is the model's form (log 13). -/
def Obligations.LoadChecksThenConstructs : Prop :=
  ∀ (len : Nat) (image ram plat : Memory) (behaviour : PlatBehaviour) (mode : CbMode) (vectors : List Word)
    (agent : Option (List Turn)),
    load none ram plat behaviour mode vectors agent = .fault .romUnreadable ∧
    ((¬∃ k, 9 ≤ k ∧ k ≤ 21 ∧ len = 2 ^ k) →
      load (some (len, image)) ram plat behaviour mode vectors agent = .fault (.romSizeInvalid len)) ∧
    ((∃ k, 9 ≤ k ∧ k ≤ 21 ∧ len = 2 ^ k) → 6 < (image.read 0x147).toNat →
      load (some (len, image)) ram plat behaviour mode vectors agent = .fault (.unsupportedBankingType (image.read 0x147))) ∧
    ((∃ k, 9 ≤ k ∧ k ≤ 21 ∧ len = 2 ^ k) → (image.read 0x147).toNat ≤ 6 →
      ∃ t, load (some (len, image)) ram plat behaviour mode vectors agent = .next t ∧
        t.rom = image ∧ t.romLen = len ∧ t.ramBanks = ram ∧ t.plat = plat ∧ t.platBehaviour = behaviour ∧
        t.cbMode = mode ∧ t.intVectors = vectors ∧ t.intAgent = agent ∧
        t.bankingType = (if (image.read 0x147).toNat = 0 then .None
                         else if (image.read 0x147).toNat ≤ 3 then .MBC1 else .MBC2) ∧
        t.currentRomBank = 1 ∧ t.currentRamBank = 0 ∧ t.romBankingMode = true ∧ t.ramWriteEnabled = false ∧
        t.af.value = 0x01B0 ∧ t.bc.value = 0x0013 ∧ t.de.value = 0x00D8 ∧ t.hl.value = 0x014D ∧
        t.sp.value = 0xFFFE ∧ t.pc = 0x0100 ∧ t.ime = false ∧ t.halted = false)

/-- What load gives for inputs in canonical form and within their ranges meets the invariant. -/
def Obligations.LoadMeetsInvariant : Prop :=
  ∀ (len : Nat) (image ram plat : Memory) (behaviour : PlatBehaviour) (mode : CbMode) (vectors : List Word)
    (agent : Option (List Turn)) (t : State),
    image.wf = true → image.within (fun a => decide (a < len)) = true →
    ram.wf = true → ram.within (fun a => decide (a < 0x8000)) = true → plat.wf = true → plat.within inPlatform = true →
    load (some (len, image)) ram plat behaviour mode vectors agent = .next t → t.Inv

/-! ## The register pairs -/

/-- R10: a pair is its two bytes and one 16-bit value of them; both views are the same storage, so a write of either is seen by the next read of the
other, and every 16-bit value round-trips. -/
def Obligations.PairAndHalvesAreOneStorage : Prop :=
  (∀ p : RegisterPair, p.value.toNat = p.hi.toNat * 0x100 + p.lo.toNat) ∧
  (∀ v : Word, (RegisterPair.ofWord v).hi.toNat = v.toNat / 0x100 ∧ (RegisterPair.ofWord v).lo.toNat = v.toNat % 0x100 ∧
    (RegisterPair.ofWord v).value = v) ∧
  ∀ (s : State) (v : Word) (b : Byte),
    (∀ p, (s.setR16 p v).getR16 p = v) ∧
    (∀ p hi lo, halves p = [hi, lo] →
      (s.setR16 p v).getR8 hi = (RegisterPair.ofWord v).hi ∧ (s.setR16 p v).getR8 lo = (RegisterPair.ofWord v).lo ∧
      (s.setR8 hi b).getR16 p = (RegisterPair.mk b (s.getR8 lo)).value ∧
      (s.setR8 lo b).getR16 p = (RegisterPair.mk (s.getR8 hi) b).value) ∧
    (s.setR8 .A b).getR16s .AF = (RegisterPair.mk b s.af.lo).value

/-! ## The bus and the bank controller -/

/-- R41, R48: the source of a bus read by the region of its address, and the abort of a ROM offset beyond the image. -/
def Obligations.BusReadByRegion : Prop :=
  ∀ (s : State) (a : Word),
    (a.toNat < 0x4000 → a.toNat < s.romLen → busRead s a = .ok (s.rom.read a.toNat)) ∧
    (a.toNat < 0x4000 → s.romLen ≤ a.toNat → busRead s a = .error (.romIndexOutOfRange a.toNat)) ∧
    (0x4000 ≤ a.toNat → a.toNat < 0x8000 → s.currentRomBank.toNat * 0x4000 + (a.toNat - 0x4000) < s.romLen →
      busRead s a = .ok (s.rom.read (s.currentRomBank.toNat * 0x4000 + (a.toNat - 0x4000)))) ∧
    (0x4000 ≤ a.toNat → a.toNat < 0x8000 → s.romLen ≤ s.currentRomBank.toNat * 0x4000 + (a.toNat - 0x4000) →
      busRead s a = .error (.romIndexOutOfRange (s.currentRomBank.toNat * 0x4000 + (a.toNat - 0x4000)))) ∧
    (0x8000 ≤ a.toNat → a.toNat < 0xA000 → busRead s a = .ok (platRead s a)) ∧
    (0xA000 ≤ a.toNat → a.toNat < 0xC000 →
      busRead s a = .ok (s.ramBanks.read (s.currentRamBank.toNat * 0x2000 + (a.toNat - 0xA000)))) ∧
    (0xC000 ≤ a.toNat → busRead s a = .ok (platRead s a)) ∧
    (s.platBehaviour = .flatRam → platRead s a = s.plat.read a.toNat)

/-- R42, R46: the effect of a bus write by the region of its address, and that it has no other. -/
def Obligations.BusWriteByRegion : Prop :=
  ∀ (s : State) (a : Word) (v : Byte),
    (a.toNat < 0x8000 → busWrite s a v = manageBanking s a v ∧ OnlyBanksDiffer s (busWrite s a v)) ∧
    (0x8000 ≤ a.toNat → a.toNat < 0xA000 → busWrite s a v = platWrite s a v) ∧
    (0xA000 ≤ a.toNat → a.toNat < 0xC000 → s.ramWriteEnabled = true →
      busWrite s a v =
        { s with ramBanks := s.ramBanks.write (s.currentRamBank.toNat * 0x2000 + (a.toNat - 0xA000)) v }) ∧
    (0xA000 ≤ a.toNat → a.toNat < 0xC000 → s.ramWriteEnabled = false → busWrite s a v = s) ∧
    (0xC000 ≤ a.toNat → busWrite s a v = platWrite s a v) ∧
    (s.platBehaviour = .flatRam → platWrite s a v = { s with plat := s.plat.write a.toNat v })

/-- R60: a byte stored where it is kept is read back by the next read of its address, and every other address reads as before. -/
def Obligations.StoredByteIsReadBack : Prop :=
  ∀ (s : State) (a : Word) (v : Byte), s.plat.wf = true → s.ramBanks.wf = true → Holds s a →
    busRead (busWrite s a v) a = .ok v ∧ ∀ b, b ≠ a → busRead (busWrite s a v) b = busRead s b

/-- R50: the RAM-write toggle. -/
def Obligations.RamToggleFollowsLowNibble : Prop :=
  ∀ (s : State) (a : Word) (v : Byte), a.toNat < 0x2000 →
    (s.bankingType = .None → manageBanking s a v = s) ∧
    (s.bankingType = .MBC2 → bitOf a.toNat 3 = 1 → manageBanking s a v = s) ∧
    (s.bankingType = .MBC1 ∨ (s.bankingType = .MBC2 ∧ bitOf a.toNat 3 = 0) →
      (v.toNat % 0x10 = 0xA → manageBanking s a v = { s with ramWriteEnabled := true }) ∧
      (v.toNat % 0x10 = 0x0 → manageBanking s a v = { s with ramWriteEnabled := false }) ∧
      (v.toNat % 0x10 ≠ 0xA → v.toNat % 0x10 ≠ 0x0 → manageBanking s a v = s))

/-- R51, R55: the low ROM-bank bits, the bump included. -/
def Obligations.RomBankLowBits : Prop :=
  ∀ (s : State) (a : Word) (v : Byte), 0x2000 ≤ a.toNat → a.toNat < 0x4000 →
    (s.bankingType = .None → manageBanking s a v = s) ∧
    (s.bankingType = .MBC2 → manageBanking s a v =
      { s with currentRomBank := BitVec.ofNat 8 (notZero (v.toNat % 0x10)) }) ∧
    (s.bankingType = .MBC1 → manageBanking s a v =
      { s with currentRomBank := BitVec.ofNat 8 (notZero (s.currentRomBank.toNat / 0x20 * 0x20 + v.toNat % 0x20)) })

/-- R52: the upper ROM-bank bits or the RAM bank. -/
def Obligations.UpperBitsOrRamBank : Prop :=
  ∀ (s : State) (a : Word) (v : Byte), 0x4000 ≤ a.toNat → a.toNat < 0x6000 →
    (s.bankingType = .MBC1 → s.romBankingMode = true → manageBanking s a v =
      { s with currentRomBank := BitVec.ofNat 8 (notZero (v.toNat / 0x20 * 0x20 + s.currentRomBank.toNat % 0x20)) }) ∧
    (s.bankingType = .MBC1 → s.romBankingMode = false → manageBanking s a v =
      { s with currentRamBank := BitVec.ofNat 2 (v.toNat % 4) }) ∧
    (s.bankingType ≠ .MBC1 → manageBanking s a v = s)

/-- R53, R54: the mode select, where entering ROM banking mode forces RAM bank 0; with type None no control write changes anything. -/
def Obligations.ModeSelectAndNoController : Prop :=
  ∀ (s : State) (a : Word) (v : Byte),
    (s.bankingType = .None → manageBanking s a v = s) ∧
    (0x6000 ≤ a.toNat → a.toNat < 0x8000 →
      (s.bankingType = .MBC1 → v.toNat % 2 = 0 → manageBanking s a v =
        { s with romBankingMode := true, currentRamBank := 0 }) ∧
      (s.bankingType = .MBC1 → v.toNat % 2 = 1 → manageBanking s a v = { s with romBankingMode := false }) ∧
      (s.bankingType = .MBC2 → manageBanking s a v = s))

/-- R101: pop after push gives the pushed value, restores SP, and changes no register, provided both stack bytes lie where they are kept. -/
def Obligations.PopAfterPushRestores : Prop :=
  ∀ (s : State) (v : Word), s.plat.wf = true → s.ramBanks.wf = true →
    Holds s (s.sp.value - 1) → Holds s (s.sp.value - 2) →
    ∃ t, pop16 (push16 s v) = .ok (v, t) ∧ t.sp = s.sp ∧
      busRead t (s.sp.value - 1) = .ok (hi8 v) ∧ busRead t (s.sp.value - 2) = .ok (lo8 v) ∧
      KeepsAllBut { accesses := [.write (s.sp.value - 1) (hi8 v), .write (s.sp.value - 2) (lo8 v),
        .read (s.sp.value - 2), .read (s.sp.value - 1)] } s t

/-! ## 8-bit loads -/

/-- R120, R123: `LD r,r'` and `LD r,d8`. -/
def Obligations.LoadRegisterFromRegisterOrImmediate : Prop :=
  (∀ (d r : Reg8) (s : State), encode (Instr.ldReg d r) = [opc (0x40 + 8 * rField d + rField r)] ∧
    ∃ t, exec (Instr.ldReg d r) s = .next t ∧ t.getR8 d = s.getR8 r ∧ t.cost = 4 ∧ KeepsAllBut { r8 := [d] } s t) ∧
  (∀ (d : Reg8) (d8 : Byte) (s : State), encode (Instr.ldRegImm d d8) = [opc (0x06 + 8 * rField d), d8] ∧
    ∃ t, exec (Instr.ldRegImm d d8) s = .next t ∧ t.getR8 d = d8 ∧ t.cost = 8 ∧ KeepsAllBut { r8 := [d] } s t)

/-- R121, R122, R124: `LD r,(HL)`, read with the old HL, `LD (HL),r` and `LD (HL),d8`; where the read aborts, so does the load. -/
def Obligations.RegisterAndImmediateThroughHL : Prop :=
  ∀ (s : State) (r : Reg8) (d8 : Byte),
    encode (Instr.ldRegAtHL r) = [opc (0x46 + 8 * rField r)] ∧ encode (Instr.ldAtHLReg r) = [opc (0x70 + rField r)] ∧
    encode (.ld_atHL_d8 d8) = [0x36, d8] ∧
    (∀ v, busRead s s.hl.value = .ok v → ∃ t, exec (Instr.ldRegAtHL r) s = .next t ∧ t.getR8 r = v ∧ t.cost = 8 ∧
      KeepsAllBut { r8 := [r], accesses := [.read s.hl.value] } s t) ∧
    (∀ f, busRead s s.hl.value = .error f → exec (Instr.ldRegAtHL r) s = .fault f) ∧
    (∃ t, exec (Instr.ldAtHLReg r) s = .next t ∧ SameBus t (busWrite s s.hl.value (s.getR8 r)) ∧ t.cost = 8 ∧
      KeepsAllBut { accesses := [.write s.hl.value (s.getR8 r)] } s t) ∧
    ∃ t, exec (.ld_atHL_d8 d8) s = .next t ∧ SameBus t (busWrite s s.hl.value d8) ∧ t.cost = 12 ∧
      KeepsAllBut { accesses := [.write s.hl.value d8] } s t

/-- R125 to R128, R133 to R138: the accumulator loaded and stored through BC, DE, `0xFF00 + a8`, `0xFF00 + C` and a16; where the read aborts, so
does the load. -/
def Obligations.AccumulatorThroughMemory : Prop :=
  ∀ (a8 : Byte) (a16 : Word) (s : State) (load store : Instr) (loadBytes storeBytes : List Byte) (addr : Word) (cycles : Nat),
    (load, store, loadBytes, storeBytes, addr, cycles) ∈ ([
      (.ld_A_atBC, .ld_atBC_A, [0x0A], [0x02], s.bc.value, 8),
      (.ld_A_atDE, .ld_atDE_A, [0x1A], [0x12], s.de.value, 8),
      (.ldh_A_atA8 a8, .ldh_atA8_A a8, [0xF0, a8], [0xE0, a8], BitVec.ofNat 16 (0xFF00 + a8.toNat), 12),
      (.ld_A_atC, .ld_atC_A, [0xF2], [0xE2], BitVec.ofNat 16 (0xFF00 + (s.getR8 .C).toNat), 8),
      (.ld_A_atA16 a16, .ld_atA16_A a16, [0xFA, lo8 a16, hi8 a16], [0xEA, lo8 a16, hi8 a16], a16, 16)] :
        List (Instr × Instr × List Byte × List Byte × Word × Nat)) →
    encode load = loadBytes ∧ encode store = storeBytes ∧
    (∀ v, busRead s addr = .ok v → ∃ t, exec load s = .next t ∧ t.getR8 .A = v ∧ t.cost = cycles ∧
      KeepsAllBut { r8 := [.A], accesses := [.read addr] } s t) ∧
    (∀ f, busRead s addr = .error f → exec load s = .fault f) ∧
    ∃ t, exec store s = .next t ∧ SameBus t (busWrite s addr (s.getR8 .A)) ∧ t.cost = cycles ∧
      KeepsAllBut { accesses := [.write addr (s.getR8 .A)] } s t

/-- R129 to R132: `LD (HL+),A`, `LD (HL-),A`, `LD A,(HL+)`, `LD A,(HL-)`: the access uses the old HL, which then wraps by 1. -/
def Obligations.AccumulatorThroughHLThenStep : Prop :=
  ∀ (s : State) (store load : Instr) (storeByte loadByte : Byte) (next : Nat),
    (store, load, storeByte, loadByte, next) ∈ ([
      (.ld_atHLinc_A, .ld_A_atHLinc, 0x22, 0x2A, (s.hl.value.toNat + 1) % 0x10000),
      (.ld_atHLdec_A, .ld_A_atHLdec, 0x32, 0x3A, (s.hl.value.toNat + 0xFFFF) % 0x10000)] :
        List (Instr × Instr × Byte × Byte × Nat)) →
    encode store = [storeByte] ∧ encode load = [loadByte] ∧
    (∃ t, exec store s = .next t ∧ SameBus t (busWrite s s.hl.value (s.getR8 .A)) ∧ t.hl.value.toNat = next ∧ t.cost = 8 ∧
      KeepsAllBut { r8 := [.H, .L], accesses := [.write s.hl.value (s.getR8 .A)] } s t) ∧
    (∀ v, busRead s s.hl.value = .ok v → ∃ t, exec load s = .next t ∧ t.getR8 .A = v ∧ t.hl.value.toNat = next ∧ t.cost = 8 ∧
      KeepsAllBut { r8 := [.A, .H, .L], accesses := [.read s.hl.value] } s t) ∧
    (∀ f, busRead s s.hl.value = .error f → exec load s = .fault f)

/-! ## 16-bit loads and the stack -/

/-- R102, R104: `LD rr,d16` and `LD SP,HL`. -/
def Obligations.LoadPair : Prop :=
  (∀ (p : Reg16) (d16 : Word) (s : State), encode (Instr.ldPairImm p d16) = [opc (0x01 + 0x10 * rrField p), lo8 d16, hi8 d16] ∧
    ∃ t, exec (Instr.ldPairImm p d16) s = .next t ∧ t.getR16 p = d16 ∧ t.cost = 12 ∧
      KeepsAllBut { r8 := halves p, sp := decide (p = .SP) } s t) ∧
  encode .ld_SP_HL = [0xF9] ∧
  (∀ s : State, ∃ t, exec .ld_SP_HL s = .next t ∧ t.sp.value = s.hl.value ∧ t.cost = 8 ∧ KeepsAllBut { sp := true } s t)

/-- R103: `LD (a16),SP` stores the low byte at a16, then the high byte after it; where both lie in memory that keeps them, they are read back. -/
def Obligations.StoreStackPointerLittleEndian : Prop :=
  ∀ (a16 : Word) (s : State), encode (.ld_atA16_SP a16) = [0x08, lo8 a16, hi8 a16] ∧ ∃ t, exec (.ld_atA16_SP a16) s = .next t ∧
    SameBus t (busWrite (busWrite s a16 s.sp.lo) (a16 + 1) s.sp.hi) ∧ t.cost = 20 ∧
    (s.plat.wf = true → s.ramBanks.wf = true → Holds s a16 → Holds s (a16 + 1) →
      busRead t a16 = .ok s.sp.lo ∧ busRead t (a16 + 1) = .ok s.sp.hi) ∧
    KeepsAllBut { accesses := [.write a16 s.sp.lo, .write (a16 + 1) s.sp.hi] } s t

/-- R105, R190: `LD HL,SP+e8` and `ADD SP,e8`: the signed sum modulo 0x10000, the flags of the unsigned sum of the low bytes. -/
def Obligations.StackPointerPlusDisplacement : Prop :=
  ∀ (e8 : Byte) (s : State) (h c : Bool),
    h = decide (s.sp.value.toNat % 0x10 + e8.toNat % 0x10 > 0xF) →
    c = decide (s.sp.value.toNat % 0x100 + e8.toNat > 0xFF) →
    encode (.ld_HL_SPe8 e8) = [0xF8, e8] ∧ encode (.add_SP_e8 e8) = [0xE8, e8] ∧
    (∃ t, exec (.ld_HL_SPe8 e8) s = .next t ∧
      (t.hl.value.toNat : Int) = ((s.sp.value.toNat : Int) + displacement e8) % 0x10000 ∧
      FlagsAre t false false h c ∧ t.cost = 12 ∧ KeepsAllBut { r8 := [.H, .L], flags := true } s t) ∧
    (∃ t, exec (.add_SP_e8 e8) s = .next t ∧
      (t.sp.value.toNat : Int) = ((s.sp.value.toNat : Int) + displacement e8) % 0x10000 ∧
      FlagsAre t false false h c ∧ t.cost = 16 ∧ KeepsAllBut { sp := true, flags := true } s t)

/-- R100, R106: `PUSH rr` writes the high byte at SP - 1, then the low byte at SP - 2, and leaves SP two lower. -/
def Obligations.PushPair : Prop :=
  ∀ (p : Reg16s) (s : State), encode (Instr.push p) = [opc (0xC5 + 0x10 * rrsField p)] ∧
    ∃ t, exec (Instr.push p) s = .next t ∧ t.sp.value = s.sp.value - 2 ∧
    SameBus t (busWrite (busWrite s (s.sp.value - 1) (hi8 (s.getR16s p))) (s.sp.value - 2) (lo8 (s.getR16s p))) ∧
    t.cost = 16 ∧ KeepsAllBut { sp := true, accesses :=
      [.write (s.sp.value - 1) (hi8 (s.getR16s p)), .write (s.sp.value - 2) (lo8 (s.getR16s p))] } s t

/-- R107, R108: `POP rr` loads the pair from SP (low) and SP + 1 (high) and leaves SP two higher; `POP AF` drops the low nibble of F. -/
def Obligations.PopPair : Prop :=
  (∀ p : Reg16s, encode (Instr.pop p) = [opc (0xC1 + 0x10 * rrsField p)]) ∧
  ∀ (s : State) (lo hi : Byte), busRead s s.sp.value = .ok lo →
    busRead (s.noteRead s.sp.value) (s.sp.value + 1) = .ok hi →
    (∀ (p : Reg16) (q : Reg16s), stackedPair p = some q → ∃ t, exec (Instr.pop q) s = .next t ∧
      t.getR16 p = joinBytes hi lo ∧ t.sp.value = s.sp.value + 2 ∧ t.cost = 12 ∧
      KeepsAllBut { r8 := halves p, sp := true, accesses := [.read s.sp.value, .read (s.sp.value + 1)] } s t) ∧
    (∃ t, exec (Instr.pop .AF) s = .next t ∧ t.getR8 .A = hi ∧ t.af.lo.toNat = lo.toNat / 0x10 * 0x10 ∧
      t.sp.value = s.sp.value + 2 ∧ t.cost = 12 ∧
      KeepsAllBut { r8 := [.A], flags := true, sp := true, accesses := [.read s.sp.value, .read (s.sp.value + 1)] } s t)

/-! ## Increment and decrement -/

/-- R150, R152: `INC r` and `DEC r`, the carry kept. -/
def Obligations.IncrementDecrementRegister : Prop :=
  ∀ (r : Reg8) (s : State),
    encode (Instr.incReg r) = [opc (0x04 + 8 * rField r)] ∧ encode (Instr.decReg r) = [opc (0x05 + 8 * rField r)] ∧
    (∃ t, exec (Instr.incReg r) s = .next t ∧ (t.getR8 r).toNat = ((s.getR8 r).toNat + 1) % 0x100 ∧
      FlagsAre t (decide ((s.getR8 r).toNat = 0xFF)) false (decide ((s.getR8 r).toNat % 0x10 = 0xF)) s.fC ∧ t.cost = 4 ∧
      KeepsAllBut { r8 := [r], flags := true } s t) ∧
    (∃ t, exec (Instr.decReg r) s = .next t ∧ (t.getR8 r).toNat = ((s.getR8 r).toNat + 0xFF) % 0x100 ∧
      FlagsAre t (decide ((s.getR8 r).toNat = 1)) true (decide ((s.getR8 r).toNat % 0x10 = 0)) s.fC ∧ t.cost = 4 ∧
      KeepsAllBut { r8 := [r], flags := true } s t)

/-- R151, R153: `INC (HL)` and `DEC (HL)`: one read, one write of the result, the flags of the byte read. -/
def Obligations.IncrementDecrementAtHL : Prop :=
  encode .inc_atHL = [0x34] ∧ encode .dec_atHL = [0x35] ∧
  ∀ (s : State) (v : Byte), busRead s s.hl.value = .ok v →
    (∃ t, exec .inc_atHL s = .next t ∧ SameBus t (busWrite s s.hl.value (BitVec.ofNat 8 (v.toNat + 1))) ∧
      FlagsAre t (decide (v.toNat = 0xFF)) false (decide (v.toNat % 0x10 = 0xF)) s.fC ∧ t.cost = 12 ∧
      KeepsAllBut { flags := true, accesses :=
        [.read s.hl.value, .write s.hl.value (BitVec.ofNat 8 (v.toNat + 1))] } s t) ∧
    (∃ t, exec .dec_atHL s = .next t ∧ SameBus t (busWrite s s.hl.value (BitVec.ofNat 8 (v.toNat + 0xFF))) ∧
      FlagsAre t (decide (v.toNat = 1)) true (decide (v.toNat % 0x10 = 0)) s.fC ∧ t.cost = 12 ∧
      KeepsAllBut { flags := true, accesses :=
        [.read s.hl.value, .write s.hl.value (BitVec.ofNat 8 (v.toNat + 0xFF))] } s t)

/-- R154, R155: `INC rr` and `DEC rr` wrap and change no flag. -/
def Obligations.IncrementDecrementPair : Prop :=
  ∀ (p : Reg16) (s : State),
    encode (Instr.incPair p) = [opc (0x03 + 0x10 * rrField p)] ∧ encode (Instr.decPair p) = [opc (0x0B + 0x10 * rrField p)] ∧
    (∃ t, exec (Instr.incPair p) s = .next t ∧ (t.getR16 p).toNat = ((s.getR16 p).toNat + 1) % 0x10000 ∧ t.cost = 8 ∧
      KeepsAllBut { r8 := halves p, sp := decide (p = .SP) } s t) ∧
    (∃ t, exec (Instr.decPair p) s = .next t ∧ (t.getR16 p).toNat = ((s.getR16 p).toNat + 0xFFFF) % 0x10000 ∧ t.cost = 8 ∧
      KeepsAllBut { r8 := halves p, sp := decide (p = .SP) } s t)

/-! ## Control transfer -/

/-- R160 to R165: the jumps. A relative target is the address after the instruction plus the signed displacement, modulo 0x10000; a condition
that fails only costs less. -/
def Obligations.Jumps : Prop :=
  ∀ (s : State) (e8 : Byte) (a16 target : Word),
    (target.toNat : Int) = ((s.pc.toNat : Int) + displacement e8) % 0x10000 →
    encode (.jr_e8 e8) = [0x18, e8] ∧ encode (.jp_a16 a16) = [0xC3, lo8 a16, hi8 a16] ∧ encode .jp_HL = [0xE9] ∧
    (∀ c : Cond, encode (Instr.jrIf c e8) = [opc (0x20 + 8 * ccField c), e8] ∧
      encode (Instr.jpIf c a16) = [opc (0xC2 + 8 * ccField c), lo8 a16, hi8 a16]) ∧
    (∃ t, exec (.jr_e8 e8) s = .next t ∧ t.pc = target ∧ t.cost = 12 ∧ KeepsAllBut { pc := true } s t) ∧
    (∃ t, exec (.jp_a16 a16) s = .next t ∧ t.pc = a16 ∧ t.cost = 16 ∧ KeepsAllBut { pc := true } s t) ∧
    (∃ t, exec .jp_HL s = .next t ∧ t.pc = s.hl.value ∧ t.cost = 4 ∧ KeepsAllBut { pc := true } s t) ∧
    (∀ c : Cond,
      (∃ t, exec (Instr.jrIf c e8) s = .next t ∧ t.pc = (if holdsOf s c then target else s.pc) ∧
        t.cost = (if holdsOf s c then 12 else 8) ∧ KeepsAllBut { pc := true } s t) ∧
      (∃ t, exec (Instr.jpIf c a16) s = .next t ∧ t.pc = (if holdsOf s c then a16 else s.pc) ∧
        t.cost = (if holdsOf s c then 16 else 12) ∧ KeepsAllBut { pc := true } s t))

/-- R166, R167, R171: the calls push the address of the next instruction, high byte first, then jump; a `CALL cc` whose condition fails pushes
nothing and has no effect but its cost. -/
def Obligations.CallsPushTheReturnAddress : Prop :=
  ∀ (s : State) (a16 : Word),
    encode (.call_a16 a16) = [0xCD, lo8 a16, hi8 a16] ∧
    (∀ c, encode (Instr.callIf c a16) = [opc (0xC4 + 8 * ccField c), lo8 a16, hi8 a16]) ∧
    (∀ n : Oct, encode (Instr.rst n) = [opc (0xC7 + 8 * n.toNat)]) ∧
    (∀ (i : Instr) (target : Word) (cycles : Nat),
      (i = .call_a16 a16 ∧ target = a16 ∧ cycles = 24) ∨
        (∃ n : Oct, i = Instr.rst n ∧ target = BitVec.ofNat 16 (n.toNat * 8) ∧ cycles = 16) ∨
        (∃ c, holdsOf s c = true ∧ i = Instr.callIf c a16 ∧ target = a16 ∧ cycles = 24) →
      ∃ t, exec i s = .next t ∧ t.pc = target ∧ t.sp.value = s.sp.value - 2 ∧ t.cost = cycles ∧
        SameBus t (busWrite (busWrite s (s.sp.value - 1) (hi8 s.pc)) (s.sp.value - 2) (lo8 s.pc)) ∧
        KeepsAllBut { pc := true, sp := true, accesses :=
          [.write (s.sp.value - 1) (hi8 s.pc), .write (s.sp.value - 2) (lo8 s.pc)] } s t) ∧
    ∀ c, holdsOf s c = false → ∃ t, exec (Instr.callIf c a16) s = .next t ∧ t.cost = 12 ∧ KeepsAllBut {} s t

/-- R168, R169, R170: the returns pop PC; `RETI` also sets IME; a `RET cc` whose condition fails has no effect but its cost. -/
def Obligations.ReturnsPopTheProgramCounter : Prop :=
  encode .ret = [0xC9] ∧ encode .reti = [0xD9] ∧ (∀ c, encode (Instr.retIf c) = [opc (0xC0 + 8 * ccField c)]) ∧
  (∀ (s : State) (lo hi : Byte), busRead s s.sp.value = .ok lo →
    busRead (s.noteRead s.sp.value) (s.sp.value + 1) = .ok hi →
    (∃ t, exec .ret s = .next t ∧ t.pc = joinBytes hi lo ∧ t.sp.value = s.sp.value + 2 ∧ t.cost = 16 ∧
      KeepsAllBut { pc := true, sp := true, accesses := [.read s.sp.value, .read (s.sp.value + 1)] } s t) ∧
    (∃ t, exec .reti s = .next t ∧ t.pc = joinBytes hi lo ∧ t.sp.value = s.sp.value + 2 ∧ t.ime = true ∧ t.cost = 16 ∧
      KeepsAllBut { pc := true, sp := true, ime := true, accesses := [.read s.sp.value, .read (s.sp.value + 1)] } s t) ∧
    (∀ c, holdsOf s c = true → ∃ t, exec (Instr.retIf c) s = .next t ∧ t.pc = joinBytes hi lo ∧
      t.sp.value = s.sp.value + 2 ∧ t.cost = 20 ∧
      KeepsAllBut { pc := true, sp := true, accesses := [.read s.sp.value, .read (s.sp.value + 1)] } s t)) ∧
  ∀ (s : State) (c : Cond), holdsOf s c = false →
    ∃ t, exec (Instr.retIf c) s = .next t ∧ t.cost = 8 ∧ KeepsAllBut {} s t

/-! ## Arithmetic and logic -/

/-- The byte an accumulator operation takes (R180), or the abort of its read. -/
def Sys2Proof.Machine.sourceByte (s : State) : AluSrc → Except Fault Byte
  | .reg r => .ok (s.getR8 r)
  | .atHL => busRead s s.hl.value
  | .imm d8 => .ok d8

/-- The bus accesses of taking that byte (R180). -/
def Sys2Proof.Machine.sourceAccesses (s : State) : AluSrc → List BusAccess
  | .atHL => [.read s.hl.value]
  | _ => []

/-- R181, R182: `ADD` and `ADC` on every source; the carry is the one before the instruction. -/
def Obligations.AddWithAndWithoutCarry : Prop :=
  ∀ (s : State) (src : AluSrc) (v : Byte) (a cin : Nat) (op : AluOp), sourceByte s src = .ok v →
    a = (s.getR8 .A).toNat → (op, cin) ∈ [(AluOp.ADD, 0), (AluOp.ADC, carryOf s)] →
    encode (Instr.alu op src) = aluBytes op src ∧
    ∃ t, exec (Instr.alu op src) s = .next t ∧ (t.getR8 .A).toNat = (a + v.toNat + cin) % 0x100 ∧
      FlagsAre t (decide ((a + v.toNat + cin) % 0x100 = 0)) false
        (decide (a % 0x10 + v.toNat % 0x10 + cin > 0xF)) (decide (a + v.toNat + cin > 0xFF)) ∧
      t.cost = (match src with | .reg _ => 4 | _ => 8) ∧
        KeepsAllBut { r8 := [.A], flags := true, accesses := sourceAccesses s src } s t

/-- R183, R184, R188: `SUB`, `SBC` and `CP` on every source, with the half-carry test as the rules write it, on the result; `CP` leaves A. -/
def Obligations.SubtractAndCompare : Prop :=
  ∀ (s : State) (src : AluSrc) (v : Byte) (a cin : Nat) (op : AluOp), sourceByte s src = .ok v →
    a = (s.getR8 .A).toNat → (op, cin) ∈ [(AluOp.SUB, 0), (AluOp.SBC, carryOf s), (AluOp.CP, 0)] →
    encode (Instr.alu op src) = aluBytes op src ∧
    ∃ t, exec (Instr.alu op src) s = .next t ∧
      (t.getR8 .A).toNat = (if op = .CP then a else (a + 0x200 - v.toNat - cin) % 0x100) ∧
      FlagsAre t (decide ((a + 0x200 - v.toNat - cin) % 0x100 = 0)) true
        (decide (a % 0x10 < (a + 0x200 - v.toNat - cin) % 0x10 + cin)) (decide (a < v.toNat + cin)) ∧
      t.cost = (match src with | .reg _ => 4 | _ => 8) ∧
        KeepsAllBut { r8 := [.A], flags := true, accesses := sourceAccesses s src } s t

/-- R185, R186, R187: `AND`, `XOR` and `OR` on every source, bit by bit. -/
def Obligations.LogicOperations : Prop :=
  ∀ (s : State) (src : AluSrc) (v : Byte), sourceByte s src = .ok v →
    (∀ op ∈ [AluOp.AND, .XOR, .OR], encode (Instr.alu op src) = aluBytes op src) ∧
    (∃ t, exec (Instr.alu .AND src) s = .next t ∧
      (∀ b, (t.getR8 .A).getLsbD b = ((s.getR8 .A).getLsbD b && v.getLsbD b)) ∧
      FlagsAre t (decide (t.getR8 .A = 0)) false true false ∧
      t.cost = (match src with | .reg _ => 4 | _ => 8) ∧
        KeepsAllBut { r8 := [.A], flags := true, accesses := sourceAccesses s src } s t) ∧
    (∃ t, exec (Instr.alu .XOR src) s = .next t ∧
      (∀ b, (t.getR8 .A).getLsbD b = Bool.xor ((s.getR8 .A).getLsbD b) (v.getLsbD b)) ∧
      FlagsAre t (decide (t.getR8 .A = 0)) false false false ∧
      t.cost = (match src with | .reg _ => 4 | _ => 8) ∧
        KeepsAllBut { r8 := [.A], flags := true, accesses := sourceAccesses s src } s t) ∧
    (∃ t, exec (Instr.alu .OR src) s = .next t ∧
      (∀ b, (t.getR8 .A).getLsbD b = ((s.getR8 .A).getLsbD b || v.getLsbD b)) ∧
      FlagsAre t (decide (t.getR8 .A = 0)) false false false ∧
      t.cost = (match src with | .reg _ => 4 | _ => 8) ∧
        KeepsAllBut { r8 := [.A], flags := true, accesses := sourceAccesses s src } s t)

/-- R101, R244: where the read of (HL) aborts, so does every instruction whose operation reads it: the accumulator operations, `INC (HL)`,
`DEC (HL)`, `RLC (HL)` in both modes, and the other extended opcodes on (HL) in mode silicon; where the read at SP aborts, or the read at SP + 1
after it, so does every pop and every return that is taken. -/
def Obligations.UnreadableOperandAborts : Prop :=
  ∀ (s : State) (f : Fault),
    (busRead s s.hl.value = .error f →
      (∀ op, exec (Instr.alu op .atHL) s = .fault f) ∧ exec .inc_atHL s = .fault f ∧ exec .dec_atHL s = .fault f ∧
      exec .rlc_atHL s = .fault f ∧
      (s.cbMode = .silicon → (∀ op, exec (Instr.rot op .atHL) s = .fault f) ∧
        ∀ b, exec (Instr.bitOp b .atHL) s = .fault f ∧ exec (Instr.resOp b .atHL) s = .fault f ∧
          exec (Instr.setOp b .atHL) s = .fault f)) ∧
    (busRead s s.sp.value = .error f ∨
        (∃ lo, busRead s s.sp.value = .ok lo ∧ busRead (s.noteRead s.sp.value) (s.sp.value + 1) = .error f) →
      exec .ret s = .fault f ∧ exec .reti s = .fault f ∧ (∀ p, exec (Instr.pop p) s = .fault f) ∧
      ∀ c, holdsOf s c = true → exec (Instr.retIf c) s = .fault f)

/-- R189: `ADD HL,rr`, the zero flag kept, the carries out of bits 11 and 15. -/
def Obligations.AddPairToHL : Prop :=
  ∀ (p : Reg16) (s : State), encode (Instr.addHL p) = [opc (0x09 + 0x10 * rrField p)] ∧ ∃ t, exec (Instr.addHL p) s = .next t ∧
    t.hl.value.toNat = (s.hl.value.toNat + (s.getR16 p).toNat) % 0x10000 ∧
    FlagsAre t s.fZ false (decide (s.hl.value.toNat % 0x1000 + (s.getR16 p).toNat % 0x1000 > 0xFFF))
      (decide (s.hl.value.toNat + (s.getR16 p).toNat > 0xFFFF)) ∧
    t.cost = 8 ∧ KeepsAllBut { r8 := [.H, .L], flags := true } s t

/-- R191: `DAA`, with the two adjustments as numbers. -/
def Obligations.DecimalAdjust : Prop :=
  ∀ (s : State) (a low high : Nat), a = (s.getR8 .A).toNat →
    low = (if s.fH = true ∨ (s.fN = false ∧ a % 0x10 > 9) then 0x06 else 0) →
    high = (if s.fC = true ∨ (s.fN = false ∧ a > 0x99) then 0x60 else 0) →
    encode .daa = [0x27] ∧ ∃ t, exec .daa s = .next t ∧
      (t.getR8 .A).toNat = (if s.fN = true then a + 0x100 - low - high else a + low + high) % 0x100 ∧
      FlagsAre t (decide (t.getR8 .A = 0)) s.fN false (s.fC || (!s.fN && decide (a > 0x99))) ∧
      t.cost = 4 ∧ KeepsAllBut { r8 := [.A], flags := true } s t

/-- R181, R183, R191 together: on packed decimal operands, `ADD A,d8` or `SUB d8` followed by `DAA` gives the packed decimal sum or difference, and
the decimal carry or borrow. -/
def Obligations.PackedDecimalArithmetic : Prop :=
  ∀ (s : State) (x y : Nat), x < 100 → y < 100 → s.getR8 .A = packed x →
    (∃ t u, exec (.add_A_d8 (packed y)) s = .next t ∧ exec .daa t = .next u ∧
      u.getR8 .A = packed ((x + y) % 100) ∧ u.fC = decide (100 ≤ x + y)) ∧
    (∃ t u, exec (.sub_d8 (packed y)) s = .next t ∧ exec .daa t = .next u ∧
      u.getR8 .A = packed ((x + 100 - y) % 100) ∧ u.fC = decide (x < y))

/-! ## Rotates, flag instructions, system instructions -/

/-- R201 to R204: the accumulator rotates; Z follows the result. -/
def Obligations.AccumulatorRotates : Prop :=
  ∀ (s : State) (i : Instr) (op : RotOp) (byte : Byte),
    (i, op, byte) ∈ [(Instr.rlca, RotOp.RLC, 0x07), (Instr.rla, RotOp.RL, 0x17), (Instr.rrca, RotOp.RRC, 0x0F), (Instr.rra, RotOp.RR, 0x1F)] →
    encode i = [byte] ∧
    ∃ t, exec i s = .next t ∧ (t.getR8 .A).toNat = (rotated op (s.getR8 .A).toNat (carryOf s)).1 ∧
      FlagsAre t (decide ((rotated op (s.getR8 .A).toNat (carryOf s)).1 = 0)) false false
        (rotated op (s.getR8 .A).toNat (carryOf s)).2 ∧
      t.cost = 4 ∧ KeepsAllBut { r8 := [.A], flags := true } s t

/-- R205, R206, R207: `CPL`, `SCF`, `CCF`. -/
def Obligations.FlagInstructions : Prop :=
  ∀ s : State,
    encode .cpl = [0x2F] ∧ encode .scf = [0x37] ∧ encode .ccf = [0x3F] ∧
    (∃ t, exec .cpl s = .next t ∧ (t.getR8 .A).toNat = 0xFF - (s.getR8 .A).toNat ∧ FlagsAre t s.fZ true true s.fC ∧
      t.cost = 4 ∧ KeepsAllBut { r8 := [.A], flags := true } s t) ∧
    (∃ t, exec .scf s = .next t ∧ FlagsAre t s.fZ false false true ∧ t.cost = 4 ∧ KeepsAllBut { flags := true } s t) ∧
    (∃ t, exec .ccf s = .next t ∧ FlagsAre t s.fZ false false (!s.fC) ∧ t.cost = 4 ∧ KeepsAllBut { flags := true } s t)

/-- R210 to R213: `NOP`, `HALT`, `DI`, `EI`. -/
def Obligations.SystemInstructions : Prop :=
  ∀ s : State,
    encode .nop = [0x00] ∧ encode .halt = [0x76] ∧ encode .di = [0xF3] ∧ encode .ei = [0xFB] ∧
    (∃ t, exec .nop s = .next t ∧ t.cost = 4 ∧ KeepsAllBut {} s t) ∧
    (∃ t, exec .halt s = .next t ∧ t.halted = true ∧ t.cost = 4 ∧ KeepsAllBut { halted := true } s t) ∧
    (∃ t, exec .di s = .next t ∧ t.ime = false ∧ t.cost = 4 ∧ KeepsAllBut { ime := true } s t) ∧
    (∃ t, exec .ei s = .next t ∧ t.ime = true ∧ t.cost = 4 ∧ KeepsAllBut { ime := true } s t)

/-! ## The extended table -/

/-- The byte an extended opcode works on (R220), or the abort of its read. -/
def Sys2Proof.Machine.operandByte (s : State) : Operand8 → Except Fault Byte
  | .reg r => .ok (s.getR8 r)
  | .atHL => busRead s s.hl.value

/-- The bus accesses of reading it. -/
def Sys2Proof.Machine.operandAccesses (s : State) : Operand8 → List BusAccess
  | .reg _ => []
  | .atHL => [.read s.hl.value]

/-- `v` is where the operand is: in the register, or written to the byte at HL (R220). -/
def Sys2Proof.Machine.OperandIs (s t : State) (o : Operand8) (v : Nat) : Prop :=
  match o with
  | .reg r => (t.getR8 r).toNat = v
  | .atHL => SameBus t (busWrite s s.hl.value (BitVec.ofNat 8 v))

/-- What reading the operand and writing `v` back touches, with or without the flags. -/
def Sys2Proof.Machine.operandTouch (s : State) (o : Operand8) (v : Nat) (flags : Bool) : Touch :=
  match o with
  | .reg r => { r8 := [r], flags := flags }
  | .atHL => { accesses := [.read s.hl.value, .write s.hl.value (BitVec.ofNat 8 v)], flags := flags }

/-- The cost of an extended opcode (R220). -/
def Sys2Proof.Machine.costOf : Operand8 → Nat
  | .reg _ => 8
  | .atHL => 16

/-- R222 to R230: `RLC` in both modes, and the seven other operations of group 0 in mode silicon, on every operand; in mode stub those seven cost 8
or 16 and change nothing, whether or not (HL) can be read. -/
def Obligations.ExtendedRotatesAndShifts : Prop :=
  ∀ (s : State) (op : RotOp) (o : Operand8),
    encode (Instr.rot op o) = [0xCB, opc (8 * xopField op + zField o)] ∧
    (op ≠ .RLC → s.cbMode = .stub → ∃ t, exec (Instr.rot op o) s = .next t ∧ t = s.setCost (costOf o)) ∧
    ∀ v : Byte, op = .RLC ∨ s.cbMode = .silicon → operandByte s o = .ok v →
      ∃ t, exec (Instr.rot op o) s = .next t ∧ OperandIs s t o (rotated op v.toNat (carryOf s)).1 ∧
        FlagsAre t (decide ((rotated op v.toNat (carryOf s)).1 = 0)) false false (rotated op v.toNat (carryOf s)).2 ∧
        t.cost = costOf o ∧ KeepsAllBut (operandTouch s o (rotated op v.toNat (carryOf s)).1 true) s t

/-- R222, R231, R232, R233: `BIT b`, `RES b` and `SET b` in mode silicon, where `BIT` writes nothing back and `RES` and `SET` change no flag; in mode
stub all three cost 8 or 16 and change nothing, whether or not (HL) can be read. -/
def Obligations.ExtendedBitOperations : Prop :=
  ∀ (s : State) (b : Oct) (o : Operand8),
    encode (Instr.bitOp b o) = [0xCB, opc (0x40 + 8 * b.toNat + zField o)] ∧
    encode (Instr.resOp b o) = [0xCB, opc (0x80 + 8 * b.toNat + zField o)] ∧
    encode (Instr.setOp b o) = [0xCB, opc (0xC0 + 8 * b.toNat + zField o)] ∧
    (∀ i ∈ [Instr.bitOp b o, Instr.resOp b o, Instr.setOp b o], s.cbMode = .stub →
      ∃ t, exec i s = .next t ∧ t = s.setCost (costOf o)) ∧
    ∀ v : Byte, s.cbMode = .silicon → operandByte s o = .ok v →
      (∃ t, exec (Instr.bitOp b o) s = .next t ∧ FlagsAre t (decide (bitOf v.toNat b.toNat = 0)) false true s.fC ∧
        t.cost = costOf o ∧ KeepsAllBut { flags := true, accesses := operandAccesses s o } s t) ∧
      (∃ t, exec (Instr.resOp b o) s = .next t ∧ OperandIs s t o (v.toNat - bitOf v.toNat b.toNat * 2 ^ b.toNat) ∧
        t.cost = costOf o ∧ KeepsAllBut (operandTouch s o (v.toNat - bitOf v.toNat b.toNat * 2 ^ b.toNat) false) s t) ∧
      (∃ t, exec (Instr.setOp b o) s = .next t ∧
        OperandIs s t o (v.toNat + (1 - bitOf v.toNat b.toNat) * 2 ^ b.toNat) ∧
        t.cost = costOf o ∧
        KeepsAllBut (operandTouch s o (v.toNat + (1 - bitOf v.toNat b.toNat) * 2 ^ b.toNat) false) s t)

/-- R214: the CB byte has no effect of its own: with an extended opcode it is the extended instruction, which completes wherever HL reads.
(That the row has a constructor of its own is the model's, log 10.) -/
def Obligations.PrefixRunsTheExtendedInstruction : Prop :=
  ∀ (x : Byte) (s : State),
    exec (.prefixCB x) s = exec (decodeExtended x) s ∧
    (∀ v, busRead s s.hl.value = .ok v → ∃ t, exec (.prefixCB x) s = .next t ∧ exec (decodeExtended x) s = .next t)

/-! ## Whole-machine rules -/

/-- R17, R18, R29: only `HALT` changes `halted`; only `DI`, `EI` and `RETI` change IME; and no instruction reads either: changed beforehand, it
changes nothing but itself, for every instruction that does not write it; and no step of the CPU brings a halted machine on. -/
def Obligations.ControlBitsAreWrittenByFourAndReadByNone : Prop :=
  (∀ (i : Instr) (s : State),
    (∀ t, exec i s = .next t →
      (t.halted ≠ s.halted → i = .halt ∧ t.halted = true) ∧ (t.ime ≠ s.ime → i = .di ∨ i = .ei ∨ i = .reti)) ∧
    (i ≠ .di → i ≠ .ei → i ≠ .reti → ∀ b : Bool,
      (∀ t, exec i s = .next t → exec i (s.setIme b) = .next (t.setIme b)) ∧
      (∀ f, exec i s = .fault f → exec i (s.setIme b) = .fault f)) ∧
    (i ≠ .halt → ∀ b : Bool,
      (∀ t, exec i s = .next t → exec i (s.setHalted b) = .next (t.setHalted b)) ∧
      (∀ f, exec i s = .fault f → exec i (s.setHalted b) = .fault f))) ∧
  ∀ (s s' t : State), CpuTurn s s' → step s = .next t → s.halted = true → t.halted = true ∧ t.ime = s.ime

/-- R94: the cost a CPU step returns is one of six. -/
def Obligations.CostsAreOfTheSet : Prop :=
  ∀ s s' t : State, CpuTurn s s' → step s = .next t → t.cost ∈ [4, 8, 12, 16, 20, 24]

/-! ## The interrupt collaborator -/

/-- R251, R252, R254: `Wake` clears `halted` and nothing else; `Dispatch(v)`, with IME set and `v` a vector, clears `halted` and IME, pushes PC and
goes to `v`, the cost untouched. (The script in which the moves stand is the model's, log 5.) -/
def Obligations.CollaboratorMoves : Prop :=
  ∀ (s : State) (ts : List Turn),
    (s.intAgent = some (.wake :: ts) → step s = .next { s with halted := false, intAgent := some ts }) ∧
    ∀ v : Word, s.intAgent = some (.dispatch v :: ts) → s.ime = true → v ∈ s.intVectors →
      ∃ t, step s = .next t ∧ t.pc = v ∧ t.ime = false ∧ t.halted = false ∧ t.sp.value = s.sp.value - 2 ∧
        t.cost = s.cost ∧ t.intAgent = some ts ∧
        SameBus t (busWrite (busWrite s (s.sp.value - 1) (hi8 s.pc)) (s.sp.value - 2) (lo8 s.pc)) ∧
        KeepsAllBut { pc := true, ime := true, halted := true, sp := true, accesses :=
            [.write (s.sp.value - 1) (hi8 s.pc), .write (s.sp.value - 2) (lo8 s.pc)] }
          { s with intAgent := some ts } t

/-- A `Dispatch` that R252 does not allow, IME being false or `v` no vector, changes nothing; that its turn is used up is the model's (log 5). -/
def Obligations.ForbiddenDispatchChangesNothing : Prop :=
  ∀ (s : State) (v : Word) (ts : List Turn), s.intAgent = some (.dispatch v :: ts) → s.ime = false ∨ v ∉ s.intVectors →
    step s = .next { s with intAgent := some ts }

/-- R257: an interrupt taken and returned from at once: `RETI` at the vector leads back to the interrupted address, IME set again, every register as
before, provided the two stack bytes lie where they are kept. -/
def Obligations.InterruptThenReturnResumes : Prop :=
  ∀ (s : State) (v : Word), s.ime = true → v ∈ s.intVectors → s.plat.wf = true → s.ramBanks.wf = true →
    Holds s (s.sp.value - 1) → Holds s (s.sp.value - 2) →
    ∃ t, exec .reti (dispatch v s) = .next t ∧ t.pc = s.pc ∧ t.sp = s.sp ∧ t.ime = true ∧ t.halted = false ∧
      KeepsAllBut { halted := true, accesses := [.write (s.sp.value - 1) (hi8 s.pc), .write (s.sp.value - 2) (lo8 s.pc),
        .read (s.sp.value - 2), .read (s.sp.value - 1)] } s t

/-! ## The platform -/

/-- R8 (P3), R47, R59, decision D14: the two behaviours of the platform. A read of a platform address always gives a byte; reading a flat RAM, or
anywhere else, changes nothing; what reaches an oracle it has seen, and nothing else changes; and no step changes which of the two the platform is,
which oracle, the image an oracle began with, or what it saw before. Nothing is said of what an oracle answers. (That its memory is the list of what
it has seen is the model's, log 6.) -/
def Obligations.PlatformIsFlatRamOrOracle : Prop :=
  (∀ (s : State) (a : Word), inPlatform a.toNat = true → ∃ v, readByte s a = .ok (v, s.noteRead a)) ∧
  (∀ (s t : State) (a : Word) (v : Byte), s.platBehaviour = .flatRam ∨ inPlatform a.toNat = false →
    readByte s a = .ok (v, t) → t = s) ∧
  (∀ (s : State) (a : Word) (v : Byte) (seed : Nat) (seen : List BusAccess), s.platBehaviour = .oracle seed seen →
    inPlatform a.toNat = true →
    s.noteRead a = { s with platBehaviour := .oracle seed (.read a :: seen) } ∧
    busWrite s a v = { s with platBehaviour := .oracle seed (.write a v :: seen) }) ∧
  ∀ s t : State, step s = .next t →
    (s.platBehaviour = .flatRam → t.platBehaviour = .flatRam) ∧
    ∀ seed seen, s.platBehaviour = .oracle seed seen → t.plat = s.plat ∧ ∃ new, t.platBehaviour = .oracle seed (new ++ seen)
end

