-- ==== Sys2Proof/Laws/Decode.lean ====
section
/-! SUPPORT. Small facts about decoding and the bit helpers. -/

namespace Sys2Proof

@[simp] theorem hi8_joinBytes (hi lo : Byte) : hi8 (joinBytes hi lo) = hi := by
  simp only [hi8, joinBytes]; exact BitVec.extractLsb'_append_eq_left

@[simp] theorem lo8_joinBytes (hi lo : Byte) : lo8 (joinBytes hi lo) = lo := by
  simp only [lo8, joinBytes]; exact BitVec.extractLsb'_append_eq_right

@[simp] theorem joinBytes_hi8_lo8 (w : Word) : joinBytes (hi8 w) (lo8 w) = w := by
  have h : w.extractLsb' 8 8 ++ w.extractLsb' 0 8 = w.extractLsb' 0 16 :=
    BitVec.extractLsb'_append_extractLsb'_eq_extractLsb' rfl
  simpa only [joinBytes, hi8, lo8, BitVec.extractLsb'_eq_self] using h

/-- An unassigned value is an instruction of one byte (R92). -/
theorem opLength_of_unassigned (op : Byte) (h : (Instr.unassigned op).wellFormed = true) :
    1 = opLength op := by
  simp only [Instr.wellFormed, unassignedValues, List.contains_iff_mem] at h
  fin_cases h <;> rfl

end Sys2Proof
end

