-- ==== Sys2Proof/Laws/Family.lean ====
section
/-! SUPPORT. The instructions by family, and what executing one of a family is: proofs about every instruction go through some sixty cases
in place of one per constructor of Instr. -/

namespace Sys2Proof.Machine

/-- Every instruction is one of these. -/
inductive Family : Instr → Prop where
  | nop : Family .nop
  | ld_atBC_A : Family .ld_atBC_A
  | rlca : Family .rlca
  | ld_atA16_SP (a16 : Word) : Family (.ld_atA16_SP a16)
  | ld_A_atBC : Family .ld_A_atBC
  | rrca : Family .rrca
  | unassigned (op : Byte) : Family (.unassigned op)
  | ld_atDE_A : Family .ld_atDE_A
  | rla : Family .rla
  | jr_e8 (e8 : Byte) : Family (.jr_e8 e8)
  | ld_A_atDE : Family .ld_A_atDE
  | rra : Family .rra
  | ld_atHLinc_A : Family .ld_atHLinc_A
  | daa : Family .daa
  | ld_A_atHLinc : Family .ld_A_atHLinc
  | cpl : Family .cpl
  | ld_atHLdec_A : Family .ld_atHLdec_A
  | inc_atHL : Family .inc_atHL
  | dec_atHL : Family .dec_atHL
  | ld_atHL_d8 (d8 : Byte) : Family (.ld_atHL_d8 d8)
  | scf : Family .scf
  | ld_A_atHLdec : Family .ld_A_atHLdec
  | ccf : Family .ccf
  | halt : Family .halt
  | jp_a16 (a16 : Word) : Family (.jp_a16 a16)
  | ret : Family .ret
  | prefixCB (x : Byte) : Family (.prefixCB x)
  | call_a16 (a16 : Word) : Family (.call_a16 a16)
  | reti : Family .reti
  | ldh_atA8_A (a8 : Byte) : Family (.ldh_atA8_A a8)
  | ld_atC_A : Family .ld_atC_A
  | add_SP_e8 (e8 : Byte) : Family (.add_SP_e8 e8)
  | jp_HL : Family .jp_HL
  | ld_atA16_A (a16 : Word) : Family (.ld_atA16_A a16)
  | ldh_A_atA8 (a8 : Byte) : Family (.ldh_A_atA8 a8)
  | ld_A_atC : Family .ld_A_atC
  | di : Family .di
  | ld_HL_SPe8 (e8 : Byte) : Family (.ld_HL_SPe8 e8)
  | ld_SP_HL : Family .ld_SP_HL
  | ld_A_atA16 (a16 : Word) : Family (.ld_A_atA16 a16)
  | ei : Family .ei
  | ldReg (d : Reg8) (r : Reg8) : Family (Instr.ldReg d r)
  | ldRegAtHL (d : Reg8) : Family (Instr.ldRegAtHL d)
  | ldAtHLReg (r : Reg8) : Family (Instr.ldAtHLReg r)
  | ldRegImm (d : Reg8) (d8 : Byte) : Family (Instr.ldRegImm d d8)
  | incReg (r : Reg8) : Family (Instr.incReg r)
  | decReg (r : Reg8) : Family (Instr.decReg r)
  | ldPairImm (p : Reg16) (d16 : Word) : Family (Instr.ldPairImm p d16)
  | incPair (p : Reg16) : Family (Instr.incPair p)
  | decPair (p : Reg16) : Family (Instr.decPair p)
  | addHL (p : Reg16) : Family (Instr.addHL p)
  | push (p : Reg16s) : Family (Instr.push p)
  | pop (p : Reg16s) : Family (Instr.pop p)
  | jrIf (c : Cond) (e8 : Byte) : Family (Instr.jrIf c e8)
  | jpIf (c : Cond) (a16 : Word) : Family (Instr.jpIf c a16)
  | callIf (c : Cond) (a16 : Word) : Family (Instr.callIf c a16)
  | retIf (c : Cond) : Family (Instr.retIf c)
  | rst (n : Oct) : Family (Instr.rst n)
  | alu (op : AluOp) (src : AluSrc) : Family (Instr.alu op src)
  | rot (op : RotOp) (o : Operand8) : Family (Instr.rot op o)
  | bitOp (b : Oct) (o : Operand8) : Family (Instr.bitOp b o)
  | resOp (b : Oct) (o : Operand8) : Family (Instr.resOp b o)
  | setOp (b : Oct) (o : Operand8) : Family (Instr.setOp b o)

/-- No instruction is left out. -/
theorem family : (i : Instr) → Family i
  | .nop => .nop
  | .ld_BC_d16 d16 => .ldPairImm .BC d16
  | .ld_atBC_A => .ld_atBC_A
  | .inc_BC => .incPair .BC
  | .inc_B => .incReg .B
  | .dec_B => .decReg .B
  | .ld_B_d8 d8 => .ldRegImm .B d8
  | .rlca => .rlca
  | .ld_atA16_SP a16 => .ld_atA16_SP a16
  | .add_HL_BC => .addHL .BC
  | .ld_A_atBC => .ld_A_atBC
  | .dec_BC => .decPair .BC
  | .inc_C => .incReg .C
  | .dec_C => .decReg .C
  | .ld_C_d8 d8 => .ldRegImm .C d8
  | .rrca => .rrca
  | .unassigned op => .unassigned op
  | .ld_DE_d16 d16 => .ldPairImm .DE d16
  | .ld_atDE_A => .ld_atDE_A
  | .inc_DE => .incPair .DE
  | .inc_D => .incReg .D
  | .dec_D => .decReg .D
  | .ld_D_d8 d8 => .ldRegImm .D d8
  | .rla => .rla
  | .jr_e8 e8 => .jr_e8 e8
  | .add_HL_DE => .addHL .DE
  | .ld_A_atDE => .ld_A_atDE
  | .dec_DE => .decPair .DE
  | .inc_E => .incReg .E
  | .dec_E => .decReg .E
  | .ld_E_d8 d8 => .ldRegImm .E d8
  | .rra => .rra
  | .jr_NZ_e8 e8 => .jrIf .NZ e8
  | .ld_HL_d16 d16 => .ldPairImm .HL d16
  | .ld_atHLinc_A => .ld_atHLinc_A
  | .inc_HL => .incPair .HL
  | .inc_H => .incReg .H
  | .dec_H => .decReg .H
  | .ld_H_d8 d8 => .ldRegImm .H d8
  | .daa => .daa
  | .jr_Z_e8 e8 => .jrIf .Z e8
  | .add_HL_HL => .addHL .HL
  | .ld_A_atHLinc => .ld_A_atHLinc
  | .dec_HL => .decPair .HL
  | .inc_L => .incReg .L
  | .dec_L => .decReg .L
  | .ld_L_d8 d8 => .ldRegImm .L d8
  | .cpl => .cpl
  | .jr_NC_e8 e8 => .jrIf .NC e8
  | .ld_SP_d16 d16 => .ldPairImm .SP d16
  | .ld_atHLdec_A => .ld_atHLdec_A
  | .inc_SP => .incPair .SP
  | .inc_atHL => .inc_atHL
  | .dec_atHL => .dec_atHL
  | .ld_atHL_d8 d8 => .ld_atHL_d8 d8
  | .scf => .scf
  | .jr_C_e8 e8 => .jrIf .C e8
  | .add_HL_SP => .addHL .SP
  | .ld_A_atHLdec => .ld_A_atHLdec
  | .dec_SP => .decPair .SP
  | .inc_A => .incReg .A
  | .dec_A => .decReg .A
  | .ld_A_d8 d8 => .ldRegImm .A d8
  | .ccf => .ccf
  | .ld_B_B => .ldReg .B .B
  | .ld_B_C => .ldReg .B .C
  | .ld_B_D => .ldReg .B .D
  | .ld_B_E => .ldReg .B .E
  | .ld_B_H => .ldReg .B .H
  | .ld_B_L => .ldReg .B .L
  | .ld_B_atHL => .ldRegAtHL .B
  | .ld_B_A => .ldReg .B .A
  | .ld_C_B => .ldReg .C .B
  | .ld_C_C => .ldReg .C .C
  | .ld_C_D => .ldReg .C .D
  | .ld_C_E => .ldReg .C .E
  | .ld_C_H => .ldReg .C .H
  | .ld_C_L => .ldReg .C .L
  | .ld_C_atHL => .ldRegAtHL .C
  | .ld_C_A => .ldReg .C .A
  | .ld_D_B => .ldReg .D .B
  | .ld_D_C => .ldReg .D .C
  | .ld_D_D => .ldReg .D .D
  | .ld_D_E => .ldReg .D .E
  | .ld_D_H => .ldReg .D .H
  | .ld_D_L => .ldReg .D .L
  | .ld_D_atHL => .ldRegAtHL .D
  | .ld_D_A => .ldReg .D .A
  | .ld_E_B => .ldReg .E .B
  | .ld_E_C => .ldReg .E .C
  | .ld_E_D => .ldReg .E .D
  | .ld_E_E => .ldReg .E .E
  | .ld_E_H => .ldReg .E .H
  | .ld_E_L => .ldReg .E .L
  | .ld_E_atHL => .ldRegAtHL .E
  | .ld_E_A => .ldReg .E .A
  | .ld_H_B => .ldReg .H .B
  | .ld_H_C => .ldReg .H .C
  | .ld_H_D => .ldReg .H .D
  | .ld_H_E => .ldReg .H .E
  | .ld_H_H => .ldReg .H .H
  | .ld_H_L => .ldReg .H .L
  | .ld_H_atHL => .ldRegAtHL .H
  | .ld_H_A => .ldReg .H .A
  | .ld_L_B => .ldReg .L .B
  | .ld_L_C => .ldReg .L .C
  | .ld_L_D => .ldReg .L .D
  | .ld_L_E => .ldReg .L .E
  | .ld_L_H => .ldReg .L .H
  | .ld_L_L => .ldReg .L .L
  | .ld_L_atHL => .ldRegAtHL .L
  | .ld_L_A => .ldReg .L .A
  | .ld_atHL_B => .ldAtHLReg .B
  | .ld_atHL_C => .ldAtHLReg .C
  | .ld_atHL_D => .ldAtHLReg .D
  | .ld_atHL_E => .ldAtHLReg .E
  | .ld_atHL_H => .ldAtHLReg .H
  | .ld_atHL_L => .ldAtHLReg .L
  | .halt => .halt
  | .ld_atHL_A => .ldAtHLReg .A
  | .ld_A_B => .ldReg .A .B
  | .ld_A_C => .ldReg .A .C
  | .ld_A_D => .ldReg .A .D
  | .ld_A_E => .ldReg .A .E
  | .ld_A_H => .ldReg .A .H
  | .ld_A_L => .ldReg .A .L
  | .ld_A_atHL => .ldRegAtHL .A
  | .ld_A_A => .ldReg .A .A
  | .add_A_B => .alu .ADD (.reg .B)
  | .add_A_C => .alu .ADD (.reg .C)
  | .add_A_D => .alu .ADD (.reg .D)
  | .add_A_E => .alu .ADD (.reg .E)
  | .add_A_H => .alu .ADD (.reg .H)
  | .add_A_L => .alu .ADD (.reg .L)
  | .add_A_atHL => .alu .ADD .atHL
  | .add_A_A => .alu .ADD (.reg .A)
  | .adc_A_B => .alu .ADC (.reg .B)
  | .adc_A_C => .alu .ADC (.reg .C)
  | .adc_A_D => .alu .ADC (.reg .D)
  | .adc_A_E => .alu .ADC (.reg .E)
  | .adc_A_H => .alu .ADC (.reg .H)
  | .adc_A_L => .alu .ADC (.reg .L)
  | .adc_A_atHL => .alu .ADC .atHL
  | .adc_A_A => .alu .ADC (.reg .A)
  | .sub_B => .alu .SUB (.reg .B)
  | .sub_C => .alu .SUB (.reg .C)
  | .sub_D => .alu .SUB (.reg .D)
  | .sub_E => .alu .SUB (.reg .E)
  | .sub_H => .alu .SUB (.reg .H)
  | .sub_L => .alu .SUB (.reg .L)
  | .sub_atHL => .alu .SUB .atHL
  | .sub_A => .alu .SUB (.reg .A)
  | .sbc_A_B => .alu .SBC (.reg .B)
  | .sbc_A_C => .alu .SBC (.reg .C)
  | .sbc_A_D => .alu .SBC (.reg .D)
  | .sbc_A_E => .alu .SBC (.reg .E)
  | .sbc_A_H => .alu .SBC (.reg .H)
  | .sbc_A_L => .alu .SBC (.reg .L)
  | .sbc_A_atHL => .alu .SBC .atHL
  | .sbc_A_A => .alu .SBC (.reg .A)
  | .and_B => .alu .AND (.reg .B)
  | .and_C => .alu .AND (.reg .C)
  | .and_D => .alu .AND (.reg .D)
  | .and_E => .alu .AND (.reg .E)
  | .and_H => .alu .AND (.reg .H)
  | .and_L => .alu .AND (.reg .L)
  | .and_atHL => .alu .AND .atHL
  | .and_A => .alu .AND (.reg .A)
  | .xor_B => .alu .XOR (.reg .B)
  | .xor_C => .alu .XOR (.reg .C)
  | .xor_D => .alu .XOR (.reg .D)
  | .xor_E => .alu .XOR (.reg .E)
  | .xor_H => .alu .XOR (.reg .H)
  | .xor_L => .alu .XOR (.reg .L)
  | .xor_atHL => .alu .XOR .atHL
  | .xor_A => .alu .XOR (.reg .A)
  | .or_B => .alu .OR (.reg .B)
  | .or_C => .alu .OR (.reg .C)
  | .or_D => .alu .OR (.reg .D)
  | .or_E => .alu .OR (.reg .E)
  | .or_H => .alu .OR (.reg .H)
  | .or_L => .alu .OR (.reg .L)
  | .or_atHL => .alu .OR .atHL
  | .or_A => .alu .OR (.reg .A)
  | .cp_B => .alu .CP (.reg .B)
  | .cp_C => .alu .CP (.reg .C)
  | .cp_D => .alu .CP (.reg .D)
  | .cp_E => .alu .CP (.reg .E)
  | .cp_H => .alu .CP (.reg .H)
  | .cp_L => .alu .CP (.reg .L)
  | .cp_atHL => .alu .CP .atHL
  | .cp_A => .alu .CP (.reg .A)
  | .ret_NZ => .retIf .NZ
  | .pop_BC => .pop .BC
  | .jp_NZ_a16 a16 => .jpIf .NZ a16
  | .jp_a16 a16 => .jp_a16 a16
  | .call_NZ_a16 a16 => .callIf .NZ a16
  | .push_BC => .push .BC
  | .add_A_d8 d8 => .alu .ADD (.imm d8)
  | .rst_00 => .rst .o0
  | .ret_Z => .retIf .Z
  | .ret => .ret
  | .jp_Z_a16 a16 => .jpIf .Z a16
  | .prefixCB x => .prefixCB x
  | .call_Z_a16 a16 => .callIf .Z a16
  | .call_a16 a16 => .call_a16 a16
  | .adc_A_d8 d8 => .alu .ADC (.imm d8)
  | .rst_08 => .rst .o1
  | .ret_NC => .retIf .NC
  | .pop_DE => .pop .DE
  | .jp_NC_a16 a16 => .jpIf .NC a16
  | .call_NC_a16 a16 => .callIf .NC a16
  | .push_DE => .push .DE
  | .sub_d8 d8 => .alu .SUB (.imm d8)
  | .rst_10 => .rst .o2
  | .ret_C => .retIf .C
  | .reti => .reti
  | .jp_C_a16 a16 => .jpIf .C a16
  | .call_C_a16 a16 => .callIf .C a16
  | .sbc_A_d8 d8 => .alu .SBC (.imm d8)
  | .rst_18 => .rst .o3
  | .ldh_atA8_A a8 => .ldh_atA8_A a8
  | .pop_HL => .pop .HL
  | .ld_atC_A => .ld_atC_A
  | .push_HL => .push .HL
  | .and_d8 d8 => .alu .AND (.imm d8)
  | .rst_20 => .rst .o4
  | .add_SP_e8 e8 => .add_SP_e8 e8
  | .jp_HL => .jp_HL
  | .ld_atA16_A a16 => .ld_atA16_A a16
  | .xor_d8 d8 => .alu .XOR (.imm d8)
  | .rst_28 => .rst .o5
  | .ldh_A_atA8 a8 => .ldh_A_atA8 a8
  | .pop_AF => .pop .AF
  | .ld_A_atC => .ld_A_atC
  | .di => .di
  | .push_AF => .push .AF
  | .or_d8 d8 => .alu .OR (.imm d8)
  | .rst_30 => .rst .o6
  | .ld_HL_SPe8 e8 => .ld_HL_SPe8 e8
  | .ld_SP_HL => .ld_SP_HL
  | .ld_A_atA16 a16 => .ld_A_atA16 a16
  | .ei => .ei
  | .cp_d8 d8 => .alu .CP (.imm d8)
  | .rst_38 => .rst .o7
  | .rlc_B => .rot .RLC (.reg .B)
  | .rlc_C => .rot .RLC (.reg .C)
  | .rlc_D => .rot .RLC (.reg .D)
  | .rlc_E => .rot .RLC (.reg .E)
  | .rlc_H => .rot .RLC (.reg .H)
  | .rlc_L => .rot .RLC (.reg .L)
  | .rlc_atHL => .rot .RLC .atHL
  | .rlc_A => .rot .RLC (.reg .A)
  | .rrc_B => .rot .RRC (.reg .B)
  | .rrc_C => .rot .RRC (.reg .C)
  | .rrc_D => .rot .RRC (.reg .D)
  | .rrc_E => .rot .RRC (.reg .E)
  | .rrc_H => .rot .RRC (.reg .H)
  | .rrc_L => .rot .RRC (.reg .L)
  | .rrc_atHL => .rot .RRC .atHL
  | .rrc_A => .rot .RRC (.reg .A)
  | .rl_B => .rot .RL (.reg .B)
  | .rl_C => .rot .RL (.reg .C)
  | .rl_D => .rot .RL (.reg .D)
  | .rl_E => .rot .RL (.reg .E)
  | .rl_H => .rot .RL (.reg .H)
  | .rl_L => .rot .RL (.reg .L)
  | .rl_atHL => .rot .RL .atHL
  | .rl_A => .rot .RL (.reg .A)
  | .rr_B => .rot .RR (.reg .B)
  | .rr_C => .rot .RR (.reg .C)
  | .rr_D => .rot .RR (.reg .D)
  | .rr_E => .rot .RR (.reg .E)
  | .rr_H => .rot .RR (.reg .H)
  | .rr_L => .rot .RR (.reg .L)
  | .rr_atHL => .rot .RR .atHL
  | .rr_A => .rot .RR (.reg .A)
  | .sla_B => .rot .SLA (.reg .B)
  | .sla_C => .rot .SLA (.reg .C)
  | .sla_D => .rot .SLA (.reg .D)
  | .sla_E => .rot .SLA (.reg .E)
  | .sla_H => .rot .SLA (.reg .H)
  | .sla_L => .rot .SLA (.reg .L)
  | .sla_atHL => .rot .SLA .atHL
  | .sla_A => .rot .SLA (.reg .A)
  | .sra_B => .rot .SRA (.reg .B)
  | .sra_C => .rot .SRA (.reg .C)
  | .sra_D => .rot .SRA (.reg .D)
  | .sra_E => .rot .SRA (.reg .E)
  | .sra_H => .rot .SRA (.reg .H)
  | .sra_L => .rot .SRA (.reg .L)
  | .sra_atHL => .rot .SRA .atHL
  | .sra_A => .rot .SRA (.reg .A)
  | .swap_B => .rot .SWAP (.reg .B)
  | .swap_C => .rot .SWAP (.reg .C)
  | .swap_D => .rot .SWAP (.reg .D)
  | .swap_E => .rot .SWAP (.reg .E)
  | .swap_H => .rot .SWAP (.reg .H)
  | .swap_L => .rot .SWAP (.reg .L)
  | .swap_atHL => .rot .SWAP .atHL
  | .swap_A => .rot .SWAP (.reg .A)
  | .srl_B => .rot .SRL (.reg .B)
  | .srl_C => .rot .SRL (.reg .C)
  | .srl_D => .rot .SRL (.reg .D)
  | .srl_E => .rot .SRL (.reg .E)
  | .srl_H => .rot .SRL (.reg .H)
  | .srl_L => .rot .SRL (.reg .L)
  | .srl_atHL => .rot .SRL .atHL
  | .srl_A => .rot .SRL (.reg .A)
  | .bit_0_B => .bitOp .o0 (.reg .B)
  | .bit_0_C => .bitOp .o0 (.reg .C)
  | .bit_0_D => .bitOp .o0 (.reg .D)
  | .bit_0_E => .bitOp .o0 (.reg .E)
  | .bit_0_H => .bitOp .o0 (.reg .H)
  | .bit_0_L => .bitOp .o0 (.reg .L)
  | .bit_0_atHL => .bitOp .o0 .atHL
  | .bit_0_A => .bitOp .o0 (.reg .A)
  | .bit_1_B => .bitOp .o1 (.reg .B)
  | .bit_1_C => .bitOp .o1 (.reg .C)
  | .bit_1_D => .bitOp .o1 (.reg .D)
  | .bit_1_E => .bitOp .o1 (.reg .E)
  | .bit_1_H => .bitOp .o1 (.reg .H)
  | .bit_1_L => .bitOp .o1 (.reg .L)
  | .bit_1_atHL => .bitOp .o1 .atHL
  | .bit_1_A => .bitOp .o1 (.reg .A)
  | .bit_2_B => .bitOp .o2 (.reg .B)
  | .bit_2_C => .bitOp .o2 (.reg .C)
  | .bit_2_D => .bitOp .o2 (.reg .D)
  | .bit_2_E => .bitOp .o2 (.reg .E)
  | .bit_2_H => .bitOp .o2 (.reg .H)
  | .bit_2_L => .bitOp .o2 (.reg .L)
  | .bit_2_atHL => .bitOp .o2 .atHL
  | .bit_2_A => .bitOp .o2 (.reg .A)
  | .bit_3_B => .bitOp .o3 (.reg .B)
  | .bit_3_C => .bitOp .o3 (.reg .C)
  | .bit_3_D => .bitOp .o3 (.reg .D)
  | .bit_3_E => .bitOp .o3 (.reg .E)
  | .bit_3_H => .bitOp .o3 (.reg .H)
  | .bit_3_L => .bitOp .o3 (.reg .L)
  | .bit_3_atHL => .bitOp .o3 .atHL
  | .bit_3_A => .bitOp .o3 (.reg .A)
  | .bit_4_B => .bitOp .o4 (.reg .B)
  | .bit_4_C => .bitOp .o4 (.reg .C)
  | .bit_4_D => .bitOp .o4 (.reg .D)
  | .bit_4_E => .bitOp .o4 (.reg .E)
  | .bit_4_H => .bitOp .o4 (.reg .H)
  | .bit_4_L => .bitOp .o4 (.reg .L)
  | .bit_4_atHL => .bitOp .o4 .atHL
  | .bit_4_A => .bitOp .o4 (.reg .A)
  | .bit_5_B => .bitOp .o5 (.reg .B)
  | .bit_5_C => .bitOp .o5 (.reg .C)
  | .bit_5_D => .bitOp .o5 (.reg .D)
  | .bit_5_E => .bitOp .o5 (.reg .E)
  | .bit_5_H => .bitOp .o5 (.reg .H)
  | .bit_5_L => .bitOp .o5 (.reg .L)
  | .bit_5_atHL => .bitOp .o5 .atHL
  | .bit_5_A => .bitOp .o5 (.reg .A)
  | .bit_6_B => .bitOp .o6 (.reg .B)
  | .bit_6_C => .bitOp .o6 (.reg .C)
  | .bit_6_D => .bitOp .o6 (.reg .D)
  | .bit_6_E => .bitOp .o6 (.reg .E)
  | .bit_6_H => .bitOp .o6 (.reg .H)
  | .bit_6_L => .bitOp .o6 (.reg .L)
  | .bit_6_atHL => .bitOp .o6 .atHL
  | .bit_6_A => .bitOp .o6 (.reg .A)
  | .bit_7_B => .bitOp .o7 (.reg .B)
  | .bit_7_C => .bitOp .o7 (.reg .C)
  | .bit_7_D => .bitOp .o7 (.reg .D)
  | .bit_7_E => .bitOp .o7 (.reg .E)
  | .bit_7_H => .bitOp .o7 (.reg .H)
  | .bit_7_L => .bitOp .o7 (.reg .L)
  | .bit_7_atHL => .bitOp .o7 .atHL
  | .bit_7_A => .bitOp .o7 (.reg .A)
  | .res_0_B => .resOp .o0 (.reg .B)
  | .res_0_C => .resOp .o0 (.reg .C)
  | .res_0_D => .resOp .o0 (.reg .D)
  | .res_0_E => .resOp .o0 (.reg .E)
  | .res_0_H => .resOp .o0 (.reg .H)
  | .res_0_L => .resOp .o0 (.reg .L)
  | .res_0_atHL => .resOp .o0 .atHL
  | .res_0_A => .resOp .o0 (.reg .A)
  | .res_1_B => .resOp .o1 (.reg .B)
  | .res_1_C => .resOp .o1 (.reg .C)
  | .res_1_D => .resOp .o1 (.reg .D)
  | .res_1_E => .resOp .o1 (.reg .E)
  | .res_1_H => .resOp .o1 (.reg .H)
  | .res_1_L => .resOp .o1 (.reg .L)
  | .res_1_atHL => .resOp .o1 .atHL
  | .res_1_A => .resOp .o1 (.reg .A)
  | .res_2_B => .resOp .o2 (.reg .B)
  | .res_2_C => .resOp .o2 (.reg .C)
  | .res_2_D => .resOp .o2 (.reg .D)
  | .res_2_E => .resOp .o2 (.reg .E)
  | .res_2_H => .resOp .o2 (.reg .H)
  | .res_2_L => .resOp .o2 (.reg .L)
  | .res_2_atHL => .resOp .o2 .atHL
  | .res_2_A => .resOp .o2 (.reg .A)
  | .res_3_B => .resOp .o3 (.reg .B)
  | .res_3_C => .resOp .o3 (.reg .C)
  | .res_3_D => .resOp .o3 (.reg .D)
  | .res_3_E => .resOp .o3 (.reg .E)
  | .res_3_H => .resOp .o3 (.reg .H)
  | .res_3_L => .resOp .o3 (.reg .L)
  | .res_3_atHL => .resOp .o3 .atHL
  | .res_3_A => .resOp .o3 (.reg .A)
  | .res_4_B => .resOp .o4 (.reg .B)
  | .res_4_C => .resOp .o4 (.reg .C)
  | .res_4_D => .resOp .o4 (.reg .D)
  | .res_4_E => .resOp .o4 (.reg .E)
  | .res_4_H => .resOp .o4 (.reg .H)
  | .res_4_L => .resOp .o4 (.reg .L)
  | .res_4_atHL => .resOp .o4 .atHL
  | .res_4_A => .resOp .o4 (.reg .A)
  | .res_5_B => .resOp .o5 (.reg .B)
  | .res_5_C => .resOp .o5 (.reg .C)
  | .res_5_D => .resOp .o5 (.reg .D)
  | .res_5_E => .resOp .o5 (.reg .E)
  | .res_5_H => .resOp .o5 (.reg .H)
  | .res_5_L => .resOp .o5 (.reg .L)
  | .res_5_atHL => .resOp .o5 .atHL
  | .res_5_A => .resOp .o5 (.reg .A)
  | .res_6_B => .resOp .o6 (.reg .B)
  | .res_6_C => .resOp .o6 (.reg .C)
  | .res_6_D => .resOp .o6 (.reg .D)
  | .res_6_E => .resOp .o6 (.reg .E)
  | .res_6_H => .resOp .o6 (.reg .H)
  | .res_6_L => .resOp .o6 (.reg .L)
  | .res_6_atHL => .resOp .o6 .atHL
  | .res_6_A => .resOp .o6 (.reg .A)
  | .res_7_B => .resOp .o7 (.reg .B)
  | .res_7_C => .resOp .o7 (.reg .C)
  | .res_7_D => .resOp .o7 (.reg .D)
  | .res_7_E => .resOp .o7 (.reg .E)
  | .res_7_H => .resOp .o7 (.reg .H)
  | .res_7_L => .resOp .o7 (.reg .L)
  | .res_7_atHL => .resOp .o7 .atHL
  | .res_7_A => .resOp .o7 (.reg .A)
  | .set_0_B => .setOp .o0 (.reg .B)
  | .set_0_C => .setOp .o0 (.reg .C)
  | .set_0_D => .setOp .o0 (.reg .D)
  | .set_0_E => .setOp .o0 (.reg .E)
  | .set_0_H => .setOp .o0 (.reg .H)
  | .set_0_L => .setOp .o0 (.reg .L)
  | .set_0_atHL => .setOp .o0 .atHL
  | .set_0_A => .setOp .o0 (.reg .A)
  | .set_1_B => .setOp .o1 (.reg .B)
  | .set_1_C => .setOp .o1 (.reg .C)
  | .set_1_D => .setOp .o1 (.reg .D)
  | .set_1_E => .setOp .o1 (.reg .E)
  | .set_1_H => .setOp .o1 (.reg .H)
  | .set_1_L => .setOp .o1 (.reg .L)
  | .set_1_atHL => .setOp .o1 .atHL
  | .set_1_A => .setOp .o1 (.reg .A)
  | .set_2_B => .setOp .o2 (.reg .B)
  | .set_2_C => .setOp .o2 (.reg .C)
  | .set_2_D => .setOp .o2 (.reg .D)
  | .set_2_E => .setOp .o2 (.reg .E)
  | .set_2_H => .setOp .o2 (.reg .H)
  | .set_2_L => .setOp .o2 (.reg .L)
  | .set_2_atHL => .setOp .o2 .atHL
  | .set_2_A => .setOp .o2 (.reg .A)
  | .set_3_B => .setOp .o3 (.reg .B)
  | .set_3_C => .setOp .o3 (.reg .C)
  | .set_3_D => .setOp .o3 (.reg .D)
  | .set_3_E => .setOp .o3 (.reg .E)
  | .set_3_H => .setOp .o3 (.reg .H)
  | .set_3_L => .setOp .o3 (.reg .L)
  | .set_3_atHL => .setOp .o3 .atHL
  | .set_3_A => .setOp .o3 (.reg .A)
  | .set_4_B => .setOp .o4 (.reg .B)
  | .set_4_C => .setOp .o4 (.reg .C)
  | .set_4_D => .setOp .o4 (.reg .D)
  | .set_4_E => .setOp .o4 (.reg .E)
  | .set_4_H => .setOp .o4 (.reg .H)
  | .set_4_L => .setOp .o4 (.reg .L)
  | .set_4_atHL => .setOp .o4 .atHL
  | .set_4_A => .setOp .o4 (.reg .A)
  | .set_5_B => .setOp .o5 (.reg .B)
  | .set_5_C => .setOp .o5 (.reg .C)
  | .set_5_D => .setOp .o5 (.reg .D)
  | .set_5_E => .setOp .o5 (.reg .E)
  | .set_5_H => .setOp .o5 (.reg .H)
  | .set_5_L => .setOp .o5 (.reg .L)
  | .set_5_atHL => .setOp .o5 .atHL
  | .set_5_A => .setOp .o5 (.reg .A)
  | .set_6_B => .setOp .o6 (.reg .B)
  | .set_6_C => .setOp .o6 (.reg .C)
  | .set_6_D => .setOp .o6 (.reg .D)
  | .set_6_E => .setOp .o6 (.reg .E)
  | .set_6_H => .setOp .o6 (.reg .H)
  | .set_6_L => .setOp .o6 (.reg .L)
  | .set_6_atHL => .setOp .o6 .atHL
  | .set_6_A => .setOp .o6 (.reg .A)
  | .set_7_B => .setOp .o7 (.reg .B)
  | .set_7_C => .setOp .o7 (.reg .C)
  | .set_7_D => .setOp .o7 (.reg .D)
  | .set_7_E => .setOp .o7 (.reg .E)
  | .set_7_H => .setOp .o7 (.reg .H)
  | .set_7_L => .setOp .o7 (.reg .L)
  | .set_7_atHL => .setOp .o7 .atHL
  | .set_7_A => .setOp .o7 (.reg .A)

/-! ### Execution by family -/

theorem exec_ldReg (d r : Reg8) (s : State) : exec (Instr.ldReg d r) s = loadReg d (s.getR8 r) 4 s := by cases d <;> cases r <;> rfl

theorem exec_ldRegAtHL (d : Reg8) (s : State) : exec (Instr.ldRegAtHL d) s = loadRegFrom d s.hl.value 8 s := by cases d <;> rfl

theorem exec_ldAtHLReg (r : Reg8) (s : State) : exec (Instr.ldAtHLReg r) s = storeByte s.hl.value (s.getR8 r) 8 s := by
  cases r <;> rfl

theorem exec_ldRegImm (d : Reg8) (d8 : Byte) (s : State) : exec (Instr.ldRegImm d d8) s = loadReg d d8 8 s := by cases d <;> rfl

theorem exec_incReg (r : Reg8) (s : State) : exec (Instr.incReg r) s = incByte r s := by cases r <;> rfl

theorem exec_decReg (r : Reg8) (s : State) : exec (Instr.decReg r) s = decByte r s := by cases r <;> rfl

theorem exec_ldPairImm (p : Reg16) (d16 : Word) (s : State) : exec (Instr.ldPairImm p d16) s = loadPair p d16 12 s := by
  cases p <;> rfl

theorem exec_incPair (p : Reg16) (s : State) : exec (Instr.incPair p) s = loadPair p (s.getR16 p + 1) 8 s := by cases p <;> rfl

theorem exec_decPair (p : Reg16) (s : State) : exec (Instr.decPair p) s = loadPair p (s.getR16 p - 1) 8 s := by cases p <;> rfl

theorem exec_addHL (p : Reg16) (s : State) : exec (Instr.addHL p) s = addToHL p s := by cases p <;> rfl

theorem exec_push (p : Reg16s) (s : State) : exec (Instr.push p) s = pushPair p s := by cases p <;> rfl

theorem exec_jrIf (c : Cond) (e8 : Byte) (s : State) :
    exec (Instr.jrIf c e8) s = branchIf c (jumpTo (relativeTarget s e8) 12 s) 8 s := by cases c <;> rfl

theorem exec_jpIf (c : Cond) (a16 : Word) (s : State) : exec (Instr.jpIf c a16) s = branchIf c (jumpTo a16 16 s) 12 s := by
  cases c <;> rfl

theorem exec_callIf (c : Cond) (a16 : Word) (s : State) : exec (Instr.callIf c a16) s = branchIf c (callTo a16 24 s) 12 s := by
  cases c <;> rfl

theorem exec_retIf (c : Cond) (s : State) : exec (Instr.retIf c) s = branchIf c (returnTo 20 s) 8 s := by cases c <;> rfl

theorem exec_rst (n : Oct) (s : State) : exec (Instr.rst n) s = callTo (BitVec.ofNat 16 (n.toNat * 8)) 16 s := by cases n <;> rfl

theorem exec_alu (op : AluOp) (src : AluSrc) (s : State) : exec (Instr.alu op src) s = accumulate op src s := by
  cases op <;> cases src <;> first | rfl | (rename_i r; cases r <;> rfl)

theorem exec_rot (op : RotOp) (o : Operand8) (s : State) :
    exec (Instr.rot op o) s = if op = .RLC then rotateOperand op o s else liveOrStub o (rotateOperand op o) s := by
  cases op <;> cases o <;> first | rfl | (rename_i r; cases r <;> rfl)

theorem exec_bitOp (b : Oct) (o : Operand8) (s : State) : exec (Instr.bitOp b o) s = liveOrStub o (liveBit b.toNat o) s := by
  cases b <;> cases o <;> first | rfl | (rename_i r; cases r <;> rfl)

theorem exec_resOp (b : Oct) (o : Operand8) (s : State) : exec (Instr.resOp b o) s = liveOrStub o (liveRes b.toNat o) s := by
  cases b <;> cases o <;> first | rfl | (rename_i r; cases r <;> rfl)

theorem exec_setOp (b : Oct) (o : Operand8) (s : State) : exec (Instr.setOp b o) s = liveOrStub o (liveSet b.toNat o) s := by
  cases b <;> cases o <;> first | rfl | (rename_i r; cases r <;> rfl)

end Sys2Proof.Machine
end

