-- ==== Sys2Proof/Laws/Memory.lean ====
section
/-! SUPPORT. The byte stores: a write is read back, leaves every other offset alone, keeps the canonical form, and stays in range. -/

namespace Sys2Proof.Machine.Memory

/-- A write leaves every other offset alone, in any list. -/
theorem read_write_ne {a b : Nat} (h : b ≠ a) (m : Memory) (v : Byte) :
    (m.write a v).read b = m.read b := by
  induction m with
  | nil =>
    simp only [write]
    split
    · rfl
    · simp only [read, if_neg (Ne.symm h)]
  | cons c m ih =>
    obtain ⟨k, w⟩ := c
    simp only [write]
    split
    · split
      · rfl
      · simp only [read, if_neg (Ne.symm h)]
    · split
      · next hk =>
        subst hk
        split <;> simp only [read, if_neg (Ne.symm h)]
      · simp only [read, ih]

/-- Below its first offset a canonical list reads blank. -/
theorem read_of_lt {lo a : Nat} {m : Memory} (h : wfFrom lo m = true) (ha : a < lo) :
    m.read a = Config.blankByte := by
  induction m generalizing lo with
  | nil => rfl
  | cons c m ih =>
    obtain ⟨k, w⟩ := c
    simp only [wfFrom, Bool.and_eq_true, decide_eq_true_eq] at h
    have hk : k ≠ a := by omega
    simp only [read, if_neg hk]
    exact ih h.2 (by omega)

theorem read_write_same_from {lo a : Nat} {m : Memory} (h : wfFrom lo m = true) (v : Byte) :
    (m.write a v).read a = v := by
  induction m generalizing lo with
  | nil =>
    simp only [write]
    split
    · next hv => exact hv.symm
    · simp only [read, if_true]
  | cons c m ih =>
    obtain ⟨k, w⟩ := c
    have h' := h
    simp only [wfFrom, Bool.and_eq_true, decide_eq_true_eq] at h'
    simp only [write]
    split
    · next hlt =>
      split
      · next hv =>
        have hk : k ≠ a := by omega
        simp only [read, if_neg hk]
        exact (read_of_lt h'.2 (by omega)).trans hv.symm
      · simp only [read, if_true]
    · split
      · next hk =>
        subst hk
        split
        · next hv => exact (read_of_lt h'.2 (Nat.lt_succ_self a)).trans hv.symm
        · simp only [read, if_true]
      · next hk =>
        have hk' : k ≠ a := fun e => hk e.symm
        simp only [read, if_neg hk']
        exact ih h'.2

/-- What is written is read back. -/
theorem read_write_same {m : Memory} (h : m.wf = true) (a : Nat) (v : Byte) : (m.write a v).read a = v :=
  read_write_same_from h v

theorem wfFrom_mono {lo lo' : Nat} {m : Memory} (h : wfFrom lo m = true) (hl : lo' ≤ lo) : wfFrom lo' m = true := by
  cases m with
  | nil => rfl
  | cons c m =>
    obtain ⟨k, w⟩ := c
    simp only [wfFrom, Bool.and_eq_true, decide_eq_true_eq] at h ⊢
    exact ⟨⟨by omega, h.1.2⟩, h.2⟩

theorem wfFrom_write {lo a : Nat} {m : Memory} (h : wfFrom lo m = true) (ha : lo ≤ a) (v : Byte) :
    wfFrom lo (m.write a v) = true := by
  induction m generalizing lo with
  | nil =>
    simp only [write]
    split
    · rfl
    · next hv => simp [wfFrom, ha, hv]
  | cons c m ih =>
    obtain ⟨k, w⟩ := c
    have h' := h
    simp only [wfFrom, Bool.and_eq_true, decide_eq_true_eq] at h'
    simp only [write]
    split
    · next hlt =>
      split
      · exact h
      · next hv =>
        simp only [wfFrom, Bool.and_eq_true, decide_eq_true_eq]
        exact ⟨⟨ha, hv⟩, ⟨by omega, h'.1.2⟩, h'.2⟩
    · split
      · next hk =>
        subst hk
        split
        · exact wfFrom_mono h'.2 (by omega)
        · next hv =>
          simp only [wfFrom, Bool.and_eq_true, decide_eq_true_eq]
          exact ⟨⟨ha, hv⟩, h'.2⟩
      · simp only [wfFrom, Bool.and_eq_true, decide_eq_true_eq]
        exact ⟨h'.1, ih h'.2 (by omega)⟩

/-- A write keeps the canonical form. -/
theorem wf_write {m : Memory} (h : m.wf = true) (a : Nat) (v : Byte) : (m.write a v).wf = true :=
  wfFrom_write h (Nat.zero_le a) v

/-- A write within a range keeps the list within it. -/
theorem within_write {p : Nat → Bool} {m : Memory} {a : Nat} (h : m.within p = true) (ha : p a = true) (v : Byte) :
    (m.write a v).within p = true := by
  induction m with
  | nil =>
    simp only [write]
    split
    · rfl
    · simp [within, ha]
  | cons c m ih =>
    obtain ⟨k, w⟩ := c
    simp only [within, List.all_cons, Bool.and_eq_true] at h ih ⊢
    simp only [write]
    split
    · split <;> simp [ha, h.1, h.2]
    · split
      · split <;> simp [ha, h.2]
      · simp [h.1, ih h.2]

end Sys2Proof.Machine.Memory
end

