-- ==== Sys2Proof/Laws/State.lean ====
section
/-! SUPPORT. What each update of State leaves and what it sets, one lemma per field per update. -/

namespace Sys2Proof.Machine

@[simp] theorem RegisterPair.value_ofWord (w : Word) : (RegisterPair.ofWord w).value = w := joinBytes_hi8_lo8 w

@[simp] theorem RegisterPair.ofWord_value (p : RegisterPair) : RegisterPair.ofWord p.value = p := by
  cases p; simp [RegisterPair.ofWord, RegisterPair.value]

@[simp] theorem RegisterPair.value_mk (hi lo : Byte) : (RegisterPair.mk hi lo).value = joinBytes hi lo := rfl

/-! ### setR8 -/

@[simp] theorem State.setR8_sp (s : State) (r : Reg8) (v : Byte) : (s.setR8 r v).sp = s.sp := by cases r <;> rfl

@[simp] theorem State.setR8_pc (s : State) (r : Reg8) (v : Byte) : (s.setR8 r v).pc = s.pc := by cases r <;> rfl

@[simp] theorem State.setR8_halted (s : State) (r : Reg8) (v : Byte) : (s.setR8 r v).halted = s.halted := by cases r <;> rfl

@[simp] theorem State.setR8_ime (s : State) (r : Reg8) (v : Byte) : (s.setR8 r v).ime = s.ime := by cases r <;> rfl

@[simp] theorem State.setR8_bankingType (s : State) (r : Reg8) (v : Byte) : (s.setR8 r v).bankingType = s.bankingType := by cases r <;> rfl

@[simp] theorem State.setR8_currentRomBank (s : State) (r : Reg8) (v : Byte) : (s.setR8 r v).currentRomBank = s.currentRomBank := by cases r <;> rfl

@[simp] theorem State.setR8_currentRamBank (s : State) (r : Reg8) (v : Byte) : (s.setR8 r v).currentRamBank = s.currentRamBank := by cases r <;> rfl

@[simp] theorem State.setR8_romBankingMode (s : State) (r : Reg8) (v : Byte) : (s.setR8 r v).romBankingMode = s.romBankingMode := by cases r <;> rfl

@[simp] theorem State.setR8_ramWriteEnabled (s : State) (r : Reg8) (v : Byte) : (s.setR8 r v).ramWriteEnabled = s.ramWriteEnabled := by cases r <;> rfl

@[simp] theorem State.setR8_rom (s : State) (r : Reg8) (v : Byte) : (s.setR8 r v).rom = s.rom := by cases r <;> rfl

@[simp] theorem State.setR8_romLen (s : State) (r : Reg8) (v : Byte) : (s.setR8 r v).romLen = s.romLen := by cases r <;> rfl

@[simp] theorem State.setR8_ramBanks (s : State) (r : Reg8) (v : Byte) : (s.setR8 r v).ramBanks = s.ramBanks := by cases r <;> rfl

@[simp] theorem State.setR8_plat (s : State) (r : Reg8) (v : Byte) : (s.setR8 r v).plat = s.plat := by cases r <;> rfl

@[simp] theorem State.setR8_platBehaviour (s : State) (r : Reg8) (v : Byte) : (s.setR8 r v).platBehaviour = s.platBehaviour := by cases r <;> rfl

@[simp] theorem State.setR8_cbMode (s : State) (r : Reg8) (v : Byte) : (s.setR8 r v).cbMode = s.cbMode := by cases r <;> rfl

@[simp] theorem State.setR8_intVectors (s : State) (r : Reg8) (v : Byte) : (s.setR8 r v).intVectors = s.intVectors := by cases r <;> rfl

@[simp] theorem State.setR8_intAgent (s : State) (r : Reg8) (v : Byte) : (s.setR8 r v).intAgent = s.intAgent := by cases r <;> rfl

@[simp] theorem State.setR8_cost (s : State) (r : Reg8) (v : Byte) : (s.setR8 r v).cost = s.cost := by cases r <;> rfl

/-! ### setR16 -/

@[simp] theorem State.setR16_af (s : State) (p : Reg16) (v : Word) : (s.setR16 p v).af = s.af := by cases p <;> rfl

@[simp] theorem State.setR16_pc (s : State) (p : Reg16) (v : Word) : (s.setR16 p v).pc = s.pc := by cases p <;> rfl

@[simp] theorem State.setR16_halted (s : State) (p : Reg16) (v : Word) : (s.setR16 p v).halted = s.halted := by cases p <;> rfl

@[simp] theorem State.setR16_ime (s : State) (p : Reg16) (v : Word) : (s.setR16 p v).ime = s.ime := by cases p <;> rfl

@[simp] theorem State.setR16_bankingType (s : State) (p : Reg16) (v : Word) : (s.setR16 p v).bankingType = s.bankingType := by cases p <;> rfl

@[simp] theorem State.setR16_currentRomBank (s : State) (p : Reg16) (v : Word) : (s.setR16 p v).currentRomBank = s.currentRomBank := by cases p <;> rfl

@[simp] theorem State.setR16_currentRamBank (s : State) (p : Reg16) (v : Word) : (s.setR16 p v).currentRamBank = s.currentRamBank := by cases p <;> rfl

@[simp] theorem State.setR16_romBankingMode (s : State) (p : Reg16) (v : Word) : (s.setR16 p v).romBankingMode = s.romBankingMode := by cases p <;> rfl

@[simp] theorem State.setR16_ramWriteEnabled (s : State) (p : Reg16) (v : Word) : (s.setR16 p v).ramWriteEnabled = s.ramWriteEnabled := by cases p <;> rfl

@[simp] theorem State.setR16_rom (s : State) (p : Reg16) (v : Word) : (s.setR16 p v).rom = s.rom := by cases p <;> rfl

@[simp] theorem State.setR16_romLen (s : State) (p : Reg16) (v : Word) : (s.setR16 p v).romLen = s.romLen := by cases p <;> rfl

@[simp] theorem State.setR16_ramBanks (s : State) (p : Reg16) (v : Word) : (s.setR16 p v).ramBanks = s.ramBanks := by cases p <;> rfl

@[simp] theorem State.setR16_plat (s : State) (p : Reg16) (v : Word) : (s.setR16 p v).plat = s.plat := by cases p <;> rfl

@[simp] theorem State.setR16_platBehaviour (s : State) (p : Reg16) (v : Word) : (s.setR16 p v).platBehaviour = s.platBehaviour := by cases p <;> rfl

@[simp] theorem State.setR16_cbMode (s : State) (p : Reg16) (v : Word) : (s.setR16 p v).cbMode = s.cbMode := by cases p <;> rfl

@[simp] theorem State.setR16_intVectors (s : State) (p : Reg16) (v : Word) : (s.setR16 p v).intVectors = s.intVectors := by cases p <;> rfl

@[simp] theorem State.setR16_intAgent (s : State) (p : Reg16) (v : Word) : (s.setR16 p v).intAgent = s.intAgent := by cases p <;> rfl

@[simp] theorem State.setR16_cost (s : State) (p : Reg16) (v : Word) : (s.setR16 p v).cost = s.cost := by cases p <;> rfl

/-! ### setSp -/

@[simp] theorem State.setSp_af (s : State) (v : Word) : (s.setSp v).af = s.af := rfl

@[simp] theorem State.setSp_bc (s : State) (v : Word) : (s.setSp v).bc = s.bc := rfl

@[simp] theorem State.setSp_de (s : State) (v : Word) : (s.setSp v).de = s.de := rfl

@[simp] theorem State.setSp_hl (s : State) (v : Word) : (s.setSp v).hl = s.hl := rfl

@[simp] theorem State.setSp_pc (s : State) (v : Word) : (s.setSp v).pc = s.pc := rfl

@[simp] theorem State.setSp_halted (s : State) (v : Word) : (s.setSp v).halted = s.halted := rfl

@[simp] theorem State.setSp_ime (s : State) (v : Word) : (s.setSp v).ime = s.ime := rfl

@[simp] theorem State.setSp_bankingType (s : State) (v : Word) : (s.setSp v).bankingType = s.bankingType := rfl

@[simp] theorem State.setSp_currentRomBank (s : State) (v : Word) : (s.setSp v).currentRomBank = s.currentRomBank := rfl

@[simp] theorem State.setSp_currentRamBank (s : State) (v : Word) : (s.setSp v).currentRamBank = s.currentRamBank := rfl

@[simp] theorem State.setSp_romBankingMode (s : State) (v : Word) : (s.setSp v).romBankingMode = s.romBankingMode := rfl

@[simp] theorem State.setSp_ramWriteEnabled (s : State) (v : Word) : (s.setSp v).ramWriteEnabled = s.ramWriteEnabled := rfl

@[simp] theorem State.setSp_rom (s : State) (v : Word) : (s.setSp v).rom = s.rom := rfl

@[simp] theorem State.setSp_romLen (s : State) (v : Word) : (s.setSp v).romLen = s.romLen := rfl

@[simp] theorem State.setSp_ramBanks (s : State) (v : Word) : (s.setSp v).ramBanks = s.ramBanks := rfl

@[simp] theorem State.setSp_plat (s : State) (v : Word) : (s.setSp v).plat = s.plat := rfl

@[simp] theorem State.setSp_platBehaviour (s : State) (v : Word) : (s.setSp v).platBehaviour = s.platBehaviour := rfl

@[simp] theorem State.setSp_cbMode (s : State) (v : Word) : (s.setSp v).cbMode = s.cbMode := rfl

@[simp] theorem State.setSp_intVectors (s : State) (v : Word) : (s.setSp v).intVectors = s.intVectors := rfl

@[simp] theorem State.setSp_intAgent (s : State) (v : Word) : (s.setSp v).intAgent = s.intAgent := rfl

@[simp] theorem State.setSp_cost (s : State) (v : Word) : (s.setSp v).cost = s.cost := rfl

/-! ### setPc -/

@[simp] theorem State.setPc_af (s : State) (v : Word) : (s.setPc v).af = s.af := rfl

@[simp] theorem State.setPc_bc (s : State) (v : Word) : (s.setPc v).bc = s.bc := rfl

@[simp] theorem State.setPc_de (s : State) (v : Word) : (s.setPc v).de = s.de := rfl

@[simp] theorem State.setPc_hl (s : State) (v : Word) : (s.setPc v).hl = s.hl := rfl

@[simp] theorem State.setPc_sp (s : State) (v : Word) : (s.setPc v).sp = s.sp := rfl

@[simp] theorem State.setPc_halted (s : State) (v : Word) : (s.setPc v).halted = s.halted := rfl

@[simp] theorem State.setPc_ime (s : State) (v : Word) : (s.setPc v).ime = s.ime := rfl

@[simp] theorem State.setPc_bankingType (s : State) (v : Word) : (s.setPc v).bankingType = s.bankingType := rfl

@[simp] theorem State.setPc_currentRomBank (s : State) (v : Word) : (s.setPc v).currentRomBank = s.currentRomBank := rfl

@[simp] theorem State.setPc_currentRamBank (s : State) (v : Word) : (s.setPc v).currentRamBank = s.currentRamBank := rfl

@[simp] theorem State.setPc_romBankingMode (s : State) (v : Word) : (s.setPc v).romBankingMode = s.romBankingMode := rfl

@[simp] theorem State.setPc_ramWriteEnabled (s : State) (v : Word) : (s.setPc v).ramWriteEnabled = s.ramWriteEnabled := rfl

@[simp] theorem State.setPc_rom (s : State) (v : Word) : (s.setPc v).rom = s.rom := rfl

@[simp] theorem State.setPc_romLen (s : State) (v : Word) : (s.setPc v).romLen = s.romLen := rfl

@[simp] theorem State.setPc_ramBanks (s : State) (v : Word) : (s.setPc v).ramBanks = s.ramBanks := rfl

@[simp] theorem State.setPc_plat (s : State) (v : Word) : (s.setPc v).plat = s.plat := rfl

@[simp] theorem State.setPc_platBehaviour (s : State) (v : Word) : (s.setPc v).platBehaviour = s.platBehaviour := rfl

@[simp] theorem State.setPc_cbMode (s : State) (v : Word) : (s.setPc v).cbMode = s.cbMode := rfl

@[simp] theorem State.setPc_intVectors (s : State) (v : Word) : (s.setPc v).intVectors = s.intVectors := rfl

@[simp] theorem State.setPc_intAgent (s : State) (v : Word) : (s.setPc v).intAgent = s.intAgent := rfl

@[simp] theorem State.setPc_cost (s : State) (v : Word) : (s.setPc v).cost = s.cost := rfl

/-! ### setIme -/

@[simp] theorem State.setIme_af (s : State) (v : Bool) : (s.setIme v).af = s.af := rfl

@[simp] theorem State.setIme_bc (s : State) (v : Bool) : (s.setIme v).bc = s.bc := rfl

@[simp] theorem State.setIme_de (s : State) (v : Bool) : (s.setIme v).de = s.de := rfl

@[simp] theorem State.setIme_hl (s : State) (v : Bool) : (s.setIme v).hl = s.hl := rfl

@[simp] theorem State.setIme_sp (s : State) (v : Bool) : (s.setIme v).sp = s.sp := rfl

@[simp] theorem State.setIme_pc (s : State) (v : Bool) : (s.setIme v).pc = s.pc := rfl

@[simp] theorem State.setIme_halted (s : State) (v : Bool) : (s.setIme v).halted = s.halted := rfl

@[simp] theorem State.setIme_bankingType (s : State) (v : Bool) : (s.setIme v).bankingType = s.bankingType := rfl

@[simp] theorem State.setIme_currentRomBank (s : State) (v : Bool) : (s.setIme v).currentRomBank = s.currentRomBank := rfl

@[simp] theorem State.setIme_currentRamBank (s : State) (v : Bool) : (s.setIme v).currentRamBank = s.currentRamBank := rfl

@[simp] theorem State.setIme_romBankingMode (s : State) (v : Bool) : (s.setIme v).romBankingMode = s.romBankingMode := rfl

@[simp] theorem State.setIme_ramWriteEnabled (s : State) (v : Bool) : (s.setIme v).ramWriteEnabled = s.ramWriteEnabled := rfl

@[simp] theorem State.setIme_rom (s : State) (v : Bool) : (s.setIme v).rom = s.rom := rfl

@[simp] theorem State.setIme_romLen (s : State) (v : Bool) : (s.setIme v).romLen = s.romLen := rfl

@[simp] theorem State.setIme_ramBanks (s : State) (v : Bool) : (s.setIme v).ramBanks = s.ramBanks := rfl

@[simp] theorem State.setIme_plat (s : State) (v : Bool) : (s.setIme v).plat = s.plat := rfl

@[simp] theorem State.setIme_platBehaviour (s : State) (v : Bool) : (s.setIme v).platBehaviour = s.platBehaviour := rfl

@[simp] theorem State.setIme_cbMode (s : State) (v : Bool) : (s.setIme v).cbMode = s.cbMode := rfl

@[simp] theorem State.setIme_intVectors (s : State) (v : Bool) : (s.setIme v).intVectors = s.intVectors := rfl

@[simp] theorem State.setIme_intAgent (s : State) (v : Bool) : (s.setIme v).intAgent = s.intAgent := rfl

@[simp] theorem State.setIme_cost (s : State) (v : Bool) : (s.setIme v).cost = s.cost := rfl

/-! ### setHalted -/

@[simp] theorem State.setHalted_af (s : State) (v : Bool) : (s.setHalted v).af = s.af := rfl

@[simp] theorem State.setHalted_bc (s : State) (v : Bool) : (s.setHalted v).bc = s.bc := rfl

@[simp] theorem State.setHalted_de (s : State) (v : Bool) : (s.setHalted v).de = s.de := rfl

@[simp] theorem State.setHalted_hl (s : State) (v : Bool) : (s.setHalted v).hl = s.hl := rfl

@[simp] theorem State.setHalted_sp (s : State) (v : Bool) : (s.setHalted v).sp = s.sp := rfl

@[simp] theorem State.setHalted_pc (s : State) (v : Bool) : (s.setHalted v).pc = s.pc := rfl

@[simp] theorem State.setHalted_ime (s : State) (v : Bool) : (s.setHalted v).ime = s.ime := rfl

@[simp] theorem State.setHalted_bankingType (s : State) (v : Bool) : (s.setHalted v).bankingType = s.bankingType := rfl

@[simp] theorem State.setHalted_currentRomBank (s : State) (v : Bool) : (s.setHalted v).currentRomBank = s.currentRomBank := rfl

@[simp] theorem State.setHalted_currentRamBank (s : State) (v : Bool) : (s.setHalted v).currentRamBank = s.currentRamBank := rfl

@[simp] theorem State.setHalted_romBankingMode (s : State) (v : Bool) : (s.setHalted v).romBankingMode = s.romBankingMode := rfl

@[simp] theorem State.setHalted_ramWriteEnabled (s : State) (v : Bool) : (s.setHalted v).ramWriteEnabled = s.ramWriteEnabled := rfl

@[simp] theorem State.setHalted_rom (s : State) (v : Bool) : (s.setHalted v).rom = s.rom := rfl

@[simp] theorem State.setHalted_romLen (s : State) (v : Bool) : (s.setHalted v).romLen = s.romLen := rfl

@[simp] theorem State.setHalted_ramBanks (s : State) (v : Bool) : (s.setHalted v).ramBanks = s.ramBanks := rfl

@[simp] theorem State.setHalted_plat (s : State) (v : Bool) : (s.setHalted v).plat = s.plat := rfl

@[simp] theorem State.setHalted_platBehaviour (s : State) (v : Bool) : (s.setHalted v).platBehaviour = s.platBehaviour := rfl

@[simp] theorem State.setHalted_cbMode (s : State) (v : Bool) : (s.setHalted v).cbMode = s.cbMode := rfl

@[simp] theorem State.setHalted_intVectors (s : State) (v : Bool) : (s.setHalted v).intVectors = s.intVectors := rfl

@[simp] theorem State.setHalted_intAgent (s : State) (v : Bool) : (s.setHalted v).intAgent = s.intAgent := rfl

@[simp] theorem State.setHalted_cost (s : State) (v : Bool) : (s.setHalted v).cost = s.cost := rfl

/-! ### setCost -/

@[simp] theorem State.setCost_af (s : State) (n : Nat) : (s.setCost n).af = s.af := rfl

@[simp] theorem State.setCost_bc (s : State) (n : Nat) : (s.setCost n).bc = s.bc := rfl

@[simp] theorem State.setCost_de (s : State) (n : Nat) : (s.setCost n).de = s.de := rfl

@[simp] theorem State.setCost_hl (s : State) (n : Nat) : (s.setCost n).hl = s.hl := rfl

@[simp] theorem State.setCost_sp (s : State) (n : Nat) : (s.setCost n).sp = s.sp := rfl

@[simp] theorem State.setCost_pc (s : State) (n : Nat) : (s.setCost n).pc = s.pc := rfl

@[simp] theorem State.setCost_halted (s : State) (n : Nat) : (s.setCost n).halted = s.halted := rfl

@[simp] theorem State.setCost_ime (s : State) (n : Nat) : (s.setCost n).ime = s.ime := rfl

@[simp] theorem State.setCost_bankingType (s : State) (n : Nat) : (s.setCost n).bankingType = s.bankingType := rfl

@[simp] theorem State.setCost_currentRomBank (s : State) (n : Nat) : (s.setCost n).currentRomBank = s.currentRomBank := rfl

@[simp] theorem State.setCost_currentRamBank (s : State) (n : Nat) : (s.setCost n).currentRamBank = s.currentRamBank := rfl

@[simp] theorem State.setCost_romBankingMode (s : State) (n : Nat) : (s.setCost n).romBankingMode = s.romBankingMode := rfl

@[simp] theorem State.setCost_ramWriteEnabled (s : State) (n : Nat) : (s.setCost n).ramWriteEnabled = s.ramWriteEnabled := rfl

@[simp] theorem State.setCost_rom (s : State) (n : Nat) : (s.setCost n).rom = s.rom := rfl

@[simp] theorem State.setCost_romLen (s : State) (n : Nat) : (s.setCost n).romLen = s.romLen := rfl

@[simp] theorem State.setCost_ramBanks (s : State) (n : Nat) : (s.setCost n).ramBanks = s.ramBanks := rfl

@[simp] theorem State.setCost_plat (s : State) (n : Nat) : (s.setCost n).plat = s.plat := rfl

@[simp] theorem State.setCost_platBehaviour (s : State) (n : Nat) : (s.setCost n).platBehaviour = s.platBehaviour := rfl

@[simp] theorem State.setCost_cbMode (s : State) (n : Nat) : (s.setCost n).cbMode = s.cbMode := rfl

@[simp] theorem State.setCost_intVectors (s : State) (n : Nat) : (s.setCost n).intVectors = s.intVectors := rfl

@[simp] theorem State.setCost_intAgent (s : State) (n : Nat) : (s.setCost n).intAgent = s.intAgent := rfl

/-! ### setFlags -/

@[simp] theorem State.setFlags_bc (s : State) (f : Flags) : (s.setFlags f).bc = s.bc := rfl

@[simp] theorem State.setFlags_de (s : State) (f : Flags) : (s.setFlags f).de = s.de := rfl

@[simp] theorem State.setFlags_hl (s : State) (f : Flags) : (s.setFlags f).hl = s.hl := rfl

@[simp] theorem State.setFlags_sp (s : State) (f : Flags) : (s.setFlags f).sp = s.sp := rfl

@[simp] theorem State.setFlags_pc (s : State) (f : Flags) : (s.setFlags f).pc = s.pc := rfl

@[simp] theorem State.setFlags_halted (s : State) (f : Flags) : (s.setFlags f).halted = s.halted := rfl

@[simp] theorem State.setFlags_ime (s : State) (f : Flags) : (s.setFlags f).ime = s.ime := rfl

@[simp] theorem State.setFlags_bankingType (s : State) (f : Flags) : (s.setFlags f).bankingType = s.bankingType := rfl

@[simp] theorem State.setFlags_currentRomBank (s : State) (f : Flags) : (s.setFlags f).currentRomBank = s.currentRomBank := rfl

@[simp] theorem State.setFlags_currentRamBank (s : State) (f : Flags) : (s.setFlags f).currentRamBank = s.currentRamBank := rfl

@[simp] theorem State.setFlags_romBankingMode (s : State) (f : Flags) : (s.setFlags f).romBankingMode = s.romBankingMode := rfl

@[simp] theorem State.setFlags_ramWriteEnabled (s : State) (f : Flags) : (s.setFlags f).ramWriteEnabled = s.ramWriteEnabled := rfl

@[simp] theorem State.setFlags_rom (s : State) (f : Flags) : (s.setFlags f).rom = s.rom := rfl

@[simp] theorem State.setFlags_romLen (s : State) (f : Flags) : (s.setFlags f).romLen = s.romLen := rfl

@[simp] theorem State.setFlags_ramBanks (s : State) (f : Flags) : (s.setFlags f).ramBanks = s.ramBanks := rfl

@[simp] theorem State.setFlags_plat (s : State) (f : Flags) : (s.setFlags f).plat = s.plat := rfl

@[simp] theorem State.setFlags_platBehaviour (s : State) (f : Flags) : (s.setFlags f).platBehaviour = s.platBehaviour := rfl

@[simp] theorem State.setFlags_cbMode (s : State) (f : Flags) : (s.setFlags f).cbMode = s.cbMode := rfl

@[simp] theorem State.setFlags_intVectors (s : State) (f : Flags) : (s.setFlags f).intVectors = s.intVectors := rfl

@[simp] theorem State.setFlags_intAgent (s : State) (f : Flags) : (s.setFlags f).intAgent = s.intAgent := rfl

@[simp] theorem State.setFlags_cost (s : State) (f : Flags) : (s.setFlags f).cost = s.cost := rfl

/-! ### noteRead -/

@[simp] theorem State.noteRead_af (s : State) (a : Word) : (s.noteRead a).af = s.af := rfl

@[simp] theorem State.noteRead_bc (s : State) (a : Word) : (s.noteRead a).bc = s.bc := rfl

@[simp] theorem State.noteRead_de (s : State) (a : Word) : (s.noteRead a).de = s.de := rfl

@[simp] theorem State.noteRead_hl (s : State) (a : Word) : (s.noteRead a).hl = s.hl := rfl

@[simp] theorem State.noteRead_sp (s : State) (a : Word) : (s.noteRead a).sp = s.sp := rfl

@[simp] theorem State.noteRead_pc (s : State) (a : Word) : (s.noteRead a).pc = s.pc := rfl

@[simp] theorem State.noteRead_halted (s : State) (a : Word) : (s.noteRead a).halted = s.halted := rfl

@[simp] theorem State.noteRead_ime (s : State) (a : Word) : (s.noteRead a).ime = s.ime := rfl

@[simp] theorem State.noteRead_bankingType (s : State) (a : Word) : (s.noteRead a).bankingType = s.bankingType := rfl

@[simp] theorem State.noteRead_currentRomBank (s : State) (a : Word) : (s.noteRead a).currentRomBank = s.currentRomBank := rfl

@[simp] theorem State.noteRead_currentRamBank (s : State) (a : Word) : (s.noteRead a).currentRamBank = s.currentRamBank := rfl

@[simp] theorem State.noteRead_romBankingMode (s : State) (a : Word) : (s.noteRead a).romBankingMode = s.romBankingMode := rfl

@[simp] theorem State.noteRead_ramWriteEnabled (s : State) (a : Word) : (s.noteRead a).ramWriteEnabled = s.ramWriteEnabled := rfl

@[simp] theorem State.noteRead_rom (s : State) (a : Word) : (s.noteRead a).rom = s.rom := rfl

@[simp] theorem State.noteRead_romLen (s : State) (a : Word) : (s.noteRead a).romLen = s.romLen := rfl

@[simp] theorem State.noteRead_ramBanks (s : State) (a : Word) : (s.noteRead a).ramBanks = s.ramBanks := rfl

@[simp] theorem State.noteRead_plat (s : State) (a : Word) : (s.noteRead a).plat = s.plat := rfl

@[simp] theorem State.noteRead_cbMode (s : State) (a : Word) : (s.noteRead a).cbMode = s.cbMode := rfl

@[simp] theorem State.noteRead_intVectors (s : State) (a : Word) : (s.noteRead a).intVectors = s.intVectors := rfl

@[simp] theorem State.noteRead_intAgent (s : State) (a : Word) : (s.noteRead a).intAgent = s.intAgent := rfl

@[simp] theorem State.noteRead_cost (s : State) (a : Word) : (s.noteRead a).cost = s.cost := rfl

/-! ### What an update sets -/

@[simp] theorem State.setSp_sp (s : State) (v : Word) : (s.setSp v).sp = .ofWord v := rfl

@[simp] theorem State.setPc_pc (s : State) (v : Word) : (s.setPc v).pc = v := rfl

@[simp] theorem State.setIme_ime (s : State) (v : Bool) : (s.setIme v).ime = v := rfl

@[simp] theorem State.setHalted_halted (s : State) (v : Bool) : (s.setHalted v).halted = v := rfl

@[simp] theorem State.setCost_cost (s : State) (n : Nat) : (s.setCost n).cost = n := rfl

@[simp] theorem State.setFlags_af (s : State) (f : Flags) : (s.setFlags f).af = ⟨s.af.hi, f.byte⟩ := rfl

@[simp] theorem State.noteRead_platBehaviour (s : State) (a : Word) :
    (s.noteRead a).platBehaviour = s.platBehaviour.note (.read a) := rfl

@[simp] theorem State.setR8_af_lo (s : State) (r : Reg8) (v : Byte) : (s.setR8 r v).af.lo = s.af.lo := by cases r <;> rfl

@[simp] theorem State.setR16_SP (s : State) (v : Word) : s.setR16 .SP v = s.setSp v := rfl

/-! ### Registers by name -/

@[simp] theorem State.getR8_setR8_same (s : State) (r : Reg8) (v : Byte) : (s.setR8 r v).getR8 r = v := by
  cases r <;> rfl

theorem State.getR8_setR8_ne (s : State) {r q : Reg8} (h : q ≠ r) (v : Byte) :
    (s.setR8 r v).getR8 q = s.getR8 q := by
  cases r <;> cases q <;> first | rfl | exact absurd rfl h

@[simp] theorem State.getR16_setR16_same (s : State) (p : Reg16) (v : Word) : (s.setR16 p v).getR16 p = v := by
  cases p <;> exact joinBytes_hi8_lo8 v

theorem State.getR16_setR16_ne (s : State) {p q : Reg16} (h : q ≠ p) (v : Word) :
    (s.setR16 p v).getR16 q = s.getR16 q := by
  cases p <;> cases q <;> first | rfl | exact absurd rfl h

@[simp] theorem State.getR8_setSp (s : State) (v : Word) (q : Reg8) : (s.setSp v).getR8 q = s.getR8 q := by cases q <;> rfl

@[simp] theorem State.getR8_setPc (s : State) (v : Word) (q : Reg8) : (s.setPc v).getR8 q = s.getR8 q := by cases q <;> rfl

@[simp] theorem State.getR8_setIme (s : State) (v : Bool) (q : Reg8) : (s.setIme v).getR8 q = s.getR8 q := by cases q <;> rfl

@[simp] theorem State.getR8_setHalted (s : State) (v : Bool) (q : Reg8) : (s.setHalted v).getR8 q = s.getR8 q := by cases q <;> rfl

@[simp] theorem State.getR8_setCost (s : State) (n : Nat) (q : Reg8) : (s.setCost n).getR8 q = s.getR8 q := by cases q <;> rfl

@[simp] theorem State.getR8_setFlags (s : State) (f : Flags) (q : Reg8) : (s.setFlags f).getR8 q = s.getR8 q := by cases q <;> rfl

@[simp] theorem State.getR8_noteRead (s : State) (a : Word) (q : Reg8) : (s.noteRead a).getR8 q = s.getR8 q := by cases q <;> rfl

@[simp] theorem State.getR16_noteRead (s : State) (a : Word) (p : Reg16) : (s.noteRead a).getR16 p = s.getR16 p := by cases p <;> rfl

@[simp] theorem State.fZ_noteRead (s : State) (a : Word) : (s.noteRead a).fZ = s.fZ := rfl

@[simp] theorem State.fN_noteRead (s : State) (a : Word) : (s.noteRead a).fN = s.fN := rfl

@[simp] theorem State.fH_noteRead (s : State) (a : Word) : (s.noteRead a).fH = s.fH := rfl

@[simp] theorem State.fC_noteRead (s : State) (a : Word) : (s.noteRead a).fC = s.fC := rfl

/-! ### Flags -/

@[simp] theorem Flags.byte_bit7 (f : Flags) : f.byte.getLsbD 7 = f.z := by
  rcases f with ⟨z, n, h, c⟩; revert z n h c; decide

@[simp] theorem Flags.byte_bit6 (f : Flags) : f.byte.getLsbD 6 = f.n := by
  rcases f with ⟨z, n, h, c⟩; revert z n h c; decide

@[simp] theorem Flags.byte_bit5 (f : Flags) : f.byte.getLsbD 5 = f.h := by
  rcases f with ⟨z, n, h, c⟩; revert z n h c; decide

@[simp] theorem Flags.byte_bit4 (f : Flags) : f.byte.getLsbD 4 = f.c := by
  rcases f with ⟨z, n, h, c⟩; revert z n h c; decide

@[simp] theorem Flags.byte_low (f : Flags) : f.byte.extractLsb' 0 4 = 0 := by
  rcases f with ⟨z, n, h, c⟩; revert z n h c; decide

@[simp] theorem State.setFlags_fZ (s : State) (f : Flags) : (s.setFlags f).fZ = f.z := f.byte_bit7

@[simp] theorem State.setFlags_fN (s : State) (f : Flags) : (s.setFlags f).fN = f.n := f.byte_bit6

@[simp] theorem State.setFlags_fH (s : State) (f : Flags) : (s.setFlags f).fH = f.h := f.byte_bit5

@[simp] theorem State.setFlags_fC (s : State) (f : Flags) : (s.setFlags f).fC = f.c := f.byte_bit4

end Sys2Proof.Machine
end

