-- ==== Sys2Proof/Laws/Ops.lean ====
section
/-! SUPPORT. One lemma per shared operation that says what it can do: the bus, the bank controller, the stack, fetch, the ends of a step. -/

namespace Sys2Proof.Machine

/-! ### The bank controller -/

/-- A control write changes nothing but the four bank registers (R49). -/
theorem manageBanking_eq (s : State) (a : Word) (v : Byte) :
    ∃ bank ram mode en, manageBanking s a v =
      { s with currentRomBank := bank, currentRamBank := ram, romBankingMode := mode, ramWriteEnabled := en } := by
  unfold manageBanking ramToggle romBankLow upperOrRam modeSelect
  repeat' split
  all_goals exact ⟨_, _, _, _, rfl⟩

/-- The bumped bank is never 0 (R55). -/
theorem bumped_ne_zero (b : BitVec 8) : bumped b ≠ 0 := by
  unfold bumped
  split
  · decide
  · assumption

/-! ### The platform -/

@[simp] theorem PlatBehaviour.note_flatRam (x : BusAccess) : PlatBehaviour.flatRam.note x = .flatRam := rfl

/-- An access elsewhere is not the platform's. -/
theorem PlatBehaviour.note_outside {x : BusAccess} (h : inPlatform (busAddress x).toNat = false) (p : PlatBehaviour) : p.note x = p := by
  cases p <;> simp [PlatBehaviour.note, h]

/-- An access of the platform region is what an oracle has seen last. -/
theorem PlatBehaviour.note_inside {x : BusAccess} (h : inPlatform (busAddress x).toNat = true) (seed : Nat) (seen : List BusAccess) :
    (PlatBehaviour.oracle seed seen).note x = .oracle seed (x :: seen) := by
  simp [PlatBehaviour.note, h]

/-- No access changes which of the two the platform is. -/
@[simp] theorem PlatBehaviour.note_eq_flatRam (p : PlatBehaviour) (x : BusAccess) : p.note x = .flatRam ↔ p = .flatRam := by
  cases p
  · simp
  · simp only [PlatBehaviour.note, reduceCtorEq, iff_false]
    split <;> simp

/-- What an oracle has seen only grows, so accesses that leave it as it was leave it so one by one. -/
theorem PlatBehaviour.note_of_note_note {p : PlatBehaviour} {x y : BusAccess} (h : (p.note x).note y = p) : p.note x = p := by
  cases p with
  | flatRam => rfl
  | oracle seed seen =>
    by_cases hx : inPlatform (busAddress x).toNat = true
    · rw [PlatBehaviour.note_inside hx] at h
      by_cases hy : inPlatform (busAddress y).toNat = true
      · rw [PlatBehaviour.note_inside hy] at h
        injection h with _ h
        exact absurd (congrArg List.length h) (by simp only [List.length_cons]; omega)
      · rw [PlatBehaviour.note_outside (by simpa using hy)] at h
        simp at h
    · exact PlatBehaviour.note_outside (by simpa using hx) _

/-- What a flat RAM reads (R47). -/
theorem platRead_flatRam {s : State} (h : s.platBehaviour = .flatRam) (a : Word) : platRead s a = s.plat.read a.toNat := by
  simp [platRead, h]

/-- What an oracle answers (R47). -/
theorem platRead_oracle {s : State} {seed : Nat} {seen : List BusAccess} (h : s.platBehaviour = .oracle seed seen) (a : Word) :
    platRead s a = Config.platAnswer seed s.plat seen a := by
  simp [platRead, h]

/-- What a write does to a flat RAM (R47). -/
theorem platWrite_flatRam {s : State} (h : s.platBehaviour = .flatRam) (a : Word) (v : Byte) :
    platWrite s a v = { s with plat := s.plat.write a.toNat v } := by
  cases s; simp_all [platWrite]

/-- What a write does to an oracle (R47): it is seen. -/
theorem platWrite_oracle {s : State} {seed : Nat} {seen : List BusAccess} (h : s.platBehaviour = .oracle seed seen) (a : Word) (v : Byte) :
    platWrite s a v = { s with platBehaviour := (PlatBehaviour.oracle seed seen).note (.write a v) } := by
  cases s; simp_all [platWrite]

@[simp] theorem platWrite_af (s : State) (a : Word) (v : Byte) : (platWrite s a v).af = s.af := rfl

@[simp] theorem platWrite_bc (s : State) (a : Word) (v : Byte) : (platWrite s a v).bc = s.bc := rfl

@[simp] theorem platWrite_de (s : State) (a : Word) (v : Byte) : (platWrite s a v).de = s.de := rfl

@[simp] theorem platWrite_hl (s : State) (a : Word) (v : Byte) : (platWrite s a v).hl = s.hl := rfl

@[simp] theorem platWrite_sp (s : State) (a : Word) (v : Byte) : (platWrite s a v).sp = s.sp := rfl

@[simp] theorem platWrite_pc (s : State) (a : Word) (v : Byte) : (platWrite s a v).pc = s.pc := rfl

@[simp] theorem platWrite_halted (s : State) (a : Word) (v : Byte) : (platWrite s a v).halted = s.halted := rfl

@[simp] theorem platWrite_ime (s : State) (a : Word) (v : Byte) : (platWrite s a v).ime = s.ime := rfl

@[simp] theorem platWrite_bankingType (s : State) (a : Word) (v : Byte) : (platWrite s a v).bankingType = s.bankingType := rfl

@[simp] theorem platWrite_currentRomBank (s : State) (a : Word) (v : Byte) : (platWrite s a v).currentRomBank = s.currentRomBank := rfl

@[simp] theorem platWrite_currentRamBank (s : State) (a : Word) (v : Byte) : (platWrite s a v).currentRamBank = s.currentRamBank := rfl

@[simp] theorem platWrite_romBankingMode (s : State) (a : Word) (v : Byte) : (platWrite s a v).romBankingMode = s.romBankingMode := rfl

@[simp] theorem platWrite_ramWriteEnabled (s : State) (a : Word) (v : Byte) : (platWrite s a v).ramWriteEnabled = s.ramWriteEnabled := rfl

@[simp] theorem platWrite_rom (s : State) (a : Word) (v : Byte) : (platWrite s a v).rom = s.rom := rfl

@[simp] theorem platWrite_romLen (s : State) (a : Word) (v : Byte) : (platWrite s a v).romLen = s.romLen := rfl

@[simp] theorem platWrite_ramBanks (s : State) (a : Word) (v : Byte) : (platWrite s a v).ramBanks = s.ramBanks := rfl

@[simp] theorem platWrite_cbMode (s : State) (a : Word) (v : Byte) : (platWrite s a v).cbMode = s.cbMode := rfl

@[simp] theorem platWrite_intVectors (s : State) (a : Word) (v : Byte) : (platWrite s a v).intVectors = s.intVectors := rfl

@[simp] theorem platWrite_intAgent (s : State) (a : Word) (v : Byte) : (platWrite s a v).intAgent = s.intAgent := rfl

@[simp] theorem platWrite_cost (s : State) (a : Word) (v : Byte) : (platWrite s a v).cost = s.cost := rfl

@[simp] theorem platWrite_platBehaviour (s : State) (a : Word) (v : Byte) :
    (platWrite s a v).platBehaviour = s.platBehaviour.note (.write a v) := rfl

/-- The bytes held at the platform addresses after a write: all but the one written stay, and that one where an oracle is. -/
theorem platWrite_plat (s : State) (a : Word) (v : Byte) :
    (s.platBehaviour = .flatRam ∧ (platWrite s a v).plat = s.plat.write a.toNat v) ∨
    (s.platBehaviour ≠ .flatRam ∧ (platWrite s a v).plat = s.plat) := by
  cases h : s.platBehaviour with
  | flatRam => exact .inl ⟨rfl, by rw [platWrite_flatRam h]⟩
  | oracle seed seen => exact .inr ⟨by simp, by rw [platWrite_oracle h]⟩

/-- What a bus write does (R42, R46). -/
theorem busWrite_cases (s : State) (a : Word) (v : Byte) :
    (a.toNat < 0x8000 ∧ busWrite s a v = manageBanking s a v) ∨
    (inPlatform a.toNat = true ∧ busWrite s a v = platWrite s a v) ∨
    (0xA000 ≤ a.toNat ∧ a.toNat < 0xC000 ∧ s.ramWriteEnabled = true ∧
      busWrite s a v = { s with ramBanks := s.ramBanks.write (ramOffset s a) v }) ∨
    (0xA000 ≤ a.toNat ∧ a.toNat < 0xC000 ∧ s.ramWriteEnabled = false ∧ busWrite s a v = s) := by
  have ha : a.toNat < 0x10000 := a.isLt
  unfold busWrite
  split
  · exact .inl ⟨by omega, rfl⟩
  · split
    · refine .inr (.inl ⟨?_, rfl⟩)
      simp only [inPlatform, Bool.or_eq_true, Bool.and_eq_true, decide_eq_true_eq]; omega
    · split
      · split
        · next h => exact .inr (.inr (.inl ⟨by omega, by omega, h, rfl⟩))
        · next h => exact .inr (.inr (.inr ⟨by omega, by omega, by simpa using h, rfl⟩))
      · refine .inr (.inl ⟨?_, rfl⟩)
        simp only [inPlatform, Bool.or_eq_true, Bool.and_eq_true, decide_eq_true_eq]; omega

/-- After a bus write an oracle has seen it, if it reached the platform region. -/
@[simp] theorem busWrite_platBehaviour (s : State) (a : Word) (v : Byte) :
    (busWrite s a v).platBehaviour = s.platBehaviour.note (.write a v) := by
  have outside : inPlatform a.toNat = false → s.platBehaviour = s.platBehaviour.note (.write a v) := fun h =>
    (PlatBehaviour.note_outside (x := .write a v) h _).symm
  obtain ⟨_, _, _, _, h⟩ := manageBanking_eq s a v
  rcases busWrite_cases s a v with ⟨b, e⟩ | ⟨_, e⟩ | ⟨b, c, _, e⟩ | ⟨b, c, _, e⟩
  · rw [e, h]; exact outside (by simp [inPlatform]; omega)
  · rw [e]; rfl
  · rw [e]; exact outside (by simp [inPlatform]; omega)
  · rw [e]; exact outside (by simp [inPlatform]; omega)

/-! ### A bus write leaves every field but the bank registers, the RAM pool and the platform -/

@[simp] theorem busWrite_af (s : State) (a : Word) (v : Byte) : (busWrite s a v).af = s.af := by
  obtain ⟨_, _, _, _, h⟩ := manageBanking_eq s a v
  rcases busWrite_cases s a v with ⟨_, e⟩ | ⟨_, e⟩ | ⟨_, _, _, e⟩ | ⟨_, _, _, e⟩ <;> simp [e, h]

@[simp] theorem busWrite_bc (s : State) (a : Word) (v : Byte) : (busWrite s a v).bc = s.bc := by
  obtain ⟨_, _, _, _, h⟩ := manageBanking_eq s a v
  rcases busWrite_cases s a v with ⟨_, e⟩ | ⟨_, e⟩ | ⟨_, _, _, e⟩ | ⟨_, _, _, e⟩ <;> simp [e, h]

@[simp] theorem busWrite_de (s : State) (a : Word) (v : Byte) : (busWrite s a v).de = s.de := by
  obtain ⟨_, _, _, _, h⟩ := manageBanking_eq s a v
  rcases busWrite_cases s a v with ⟨_, e⟩ | ⟨_, e⟩ | ⟨_, _, _, e⟩ | ⟨_, _, _, e⟩ <;> simp [e, h]

@[simp] theorem busWrite_hl (s : State) (a : Word) (v : Byte) : (busWrite s a v).hl = s.hl := by
  obtain ⟨_, _, _, _, h⟩ := manageBanking_eq s a v
  rcases busWrite_cases s a v with ⟨_, e⟩ | ⟨_, e⟩ | ⟨_, _, _, e⟩ | ⟨_, _, _, e⟩ <;> simp [e, h]

@[simp] theorem busWrite_sp (s : State) (a : Word) (v : Byte) : (busWrite s a v).sp = s.sp := by
  obtain ⟨_, _, _, _, h⟩ := manageBanking_eq s a v
  rcases busWrite_cases s a v with ⟨_, e⟩ | ⟨_, e⟩ | ⟨_, _, _, e⟩ | ⟨_, _, _, e⟩ <;> simp [e, h]

@[simp] theorem busWrite_pc (s : State) (a : Word) (v : Byte) : (busWrite s a v).pc = s.pc := by
  obtain ⟨_, _, _, _, h⟩ := manageBanking_eq s a v
  rcases busWrite_cases s a v with ⟨_, e⟩ | ⟨_, e⟩ | ⟨_, _, _, e⟩ | ⟨_, _, _, e⟩ <;> simp [e, h]

@[simp] theorem busWrite_halted (s : State) (a : Word) (v : Byte) : (busWrite s a v).halted = s.halted := by
  obtain ⟨_, _, _, _, h⟩ := manageBanking_eq s a v
  rcases busWrite_cases s a v with ⟨_, e⟩ | ⟨_, e⟩ | ⟨_, _, _, e⟩ | ⟨_, _, _, e⟩ <;> simp [e, h]

@[simp] theorem busWrite_ime (s : State) (a : Word) (v : Byte) : (busWrite s a v).ime = s.ime := by
  obtain ⟨_, _, _, _, h⟩ := manageBanking_eq s a v
  rcases busWrite_cases s a v with ⟨_, e⟩ | ⟨_, e⟩ | ⟨_, _, _, e⟩ | ⟨_, _, _, e⟩ <;> simp [e, h]

@[simp] theorem busWrite_bankingType (s : State) (a : Word) (v : Byte) : (busWrite s a v).bankingType = s.bankingType := by
  obtain ⟨_, _, _, _, h⟩ := manageBanking_eq s a v
  rcases busWrite_cases s a v with ⟨_, e⟩ | ⟨_, e⟩ | ⟨_, _, _, e⟩ | ⟨_, _, _, e⟩ <;> simp [e, h]

@[simp] theorem busWrite_rom (s : State) (a : Word) (v : Byte) : (busWrite s a v).rom = s.rom := by
  obtain ⟨_, _, _, _, h⟩ := manageBanking_eq s a v
  rcases busWrite_cases s a v with ⟨_, e⟩ | ⟨_, e⟩ | ⟨_, _, _, e⟩ | ⟨_, _, _, e⟩ <;> simp [e, h]

@[simp] theorem busWrite_romLen (s : State) (a : Word) (v : Byte) : (busWrite s a v).romLen = s.romLen := by
  obtain ⟨_, _, _, _, h⟩ := manageBanking_eq s a v
  rcases busWrite_cases s a v with ⟨_, e⟩ | ⟨_, e⟩ | ⟨_, _, _, e⟩ | ⟨_, _, _, e⟩ <;> simp [e, h]

@[simp] theorem busWrite_cbMode (s : State) (a : Word) (v : Byte) : (busWrite s a v).cbMode = s.cbMode := by
  obtain ⟨_, _, _, _, h⟩ := manageBanking_eq s a v
  rcases busWrite_cases s a v with ⟨_, e⟩ | ⟨_, e⟩ | ⟨_, _, _, e⟩ | ⟨_, _, _, e⟩ <;> simp [e, h]

@[simp] theorem busWrite_intVectors (s : State) (a : Word) (v : Byte) : (busWrite s a v).intVectors = s.intVectors := by
  obtain ⟨_, _, _, _, h⟩ := manageBanking_eq s a v
  rcases busWrite_cases s a v with ⟨_, e⟩ | ⟨_, e⟩ | ⟨_, _, _, e⟩ | ⟨_, _, _, e⟩ <;> simp [e, h]

@[simp] theorem busWrite_intAgent (s : State) (a : Word) (v : Byte) : (busWrite s a v).intAgent = s.intAgent := by
  obtain ⟨_, _, _, _, h⟩ := manageBanking_eq s a v
  rcases busWrite_cases s a v with ⟨_, e⟩ | ⟨_, e⟩ | ⟨_, _, _, e⟩ | ⟨_, _, _, e⟩ <;> simp [e, h]

@[simp] theorem busWrite_cost (s : State) (a : Word) (v : Byte) : (busWrite s a v).cost = s.cost := by
  obtain ⟨_, _, _, _, h⟩ := manageBanking_eq s a v
  rcases busWrite_cases s a v with ⟨_, e⟩ | ⟨_, e⟩ | ⟨_, _, _, e⟩ | ⟨_, _, _, e⟩ <;> simp [e, h]

@[simp] theorem getR8_busWrite (s : State) (a : Word) (v : Byte) (q : Reg8) :
    (busWrite s a v).getR8 q = s.getR8 q := by
  cases q <;> simp [State.getR8]

/-! ### Reading the bus -/

/-- A bus read depends only on image, RAM pool, the two bank registers, and at the platform addresses on what the platform gives (R41, R47). -/
theorem busRead_of_platRead {s t : State} (h1 : t.rom = s.rom) (h2 : t.romLen = s.romLen) (h3 : t.ramBanks = s.ramBanks)
    (h5 : t.currentRomBank = s.currentRomBank) (h6 : t.currentRamBank = s.currentRamBank)
    {a : Word} (h7 : inPlatform a.toNat = false ∨ platRead t a = platRead s a) : busRead t a = busRead s a := by
  have ha : a.toNat < 0x10000 := a.isLt
  unfold busRead romAt romWindowOffset ramOffset
  rw [h1, h2, h3, h5, h6]
  rcases h7 with h | h
  · simp only [inPlatform, Bool.or_eq_false_iff, Bool.and_eq_false_iff, decide_eq_false_iff_not] at h
    repeat' split
    all_goals first | rfl | omega
  · rw [h]

/-- What the platform gives depends only on its image and its behaviour (R47). -/
theorem platRead_congr {s t : State} (h : t.plat = s.plat) (k : t.platBehaviour = s.platBehaviour) (a : Word) :
    platRead t a = platRead s a := by
  unfold platRead; rw [h, k]

/-- States that agree in what a bus read can depend on read alike. -/
theorem busRead_congr {s t : State} (h1 : t.rom = s.rom) (h2 : t.romLen = s.romLen) (h3 : t.ramBanks = s.ramBanks)
    (h4 : t.plat = s.plat) (h5 : t.currentRomBank = s.currentRomBank) (h6 : t.currentRamBank = s.currentRamBank)
    {a : Word} (h7 : inPlatform a.toNat = false ∨ t.platBehaviour = s.platBehaviour) : busRead t a = busRead s a :=
  busRead_of_platRead h1 h2 h3 h5 h6 (h7.imp_right fun h => platRead_congr h4 h a)

/-- Whether a bus read stops, and why, does not depend on the platform (R41). -/
theorem busRead_error_congr {s t : State} (h1 : t.rom = s.rom) (h2 : t.romLen = s.romLen) (h5 : t.currentRomBank = s.currentRomBank)
    {a : Word} {f : Fault} (h : busRead t a = .error f) : busRead s a = .error f := by
  unfold busRead romAt romWindowOffset at *
  rw [h1, h2, h5] at h
  repeat' split at h
  all_goals first
    | (cases h; done)
    | (cases h; repeat' split
       all_goals first | omega | rfl)

/-- The only reason a bus read stops (R48, R244). -/
theorem busRead_error {s : State} {a : Word} {f : Fault} (h : busRead s a = .error f) :
    ∃ off, f = .romIndexOutOfRange off ∧ s.romLen ≤ off := by
  unfold busRead romAt at h
  repeat' split at h
  all_goals first
    | cases h; done
    | (cases h; exact ⟨_, rfl, by omega⟩)

/-- Another read before changes what a bus read gives only where an oracle has seen it. -/
theorem busRead_noteRead {s : State} {b a : Word}
    (h : s.platBehaviour = .flatRam ∨ inPlatform b.toNat = false ∨ inPlatform a.toNat = false) :
    busRead (s.noteRead b) a = busRead s a := by
  refine busRead_congr (s := s) (t := s.noteRead b) rfl rfl rfl rfl rfl rfl ?_
  rcases h with h | h | h
  · exact .inr (by simp [h])
  · exact .inr (PlatBehaviour.note_outside (x := .read b) h _)
  · exact .inl h

/-- A bus read whole, when it gives a byte. -/
theorem readByte_ok {s : State} {a : Word} {v : Byte} (h : busRead s a = .ok v) : readByte s a = .ok (v, s.noteRead a) := by
  simp [readByte, h]

theorem readByte_error {s : State} {a : Word} {f : Fault} (h : busRead s a = .error f) : readByte s a = .error f := by
  simp [readByte, h]

@[simp] theorem busRead_setR8 (s : State) (r : Reg8) (v : Byte) (x : Word) : busRead (s.setR8 r v) x = busRead s x :=
  busRead_congr (by simp) (by simp) (by simp) (by simp) (by simp) (by simp) (.inr (by simp))

@[simp] theorem busRead_setR16 (s : State) (p : Reg16) (v : Word) (x : Word) : busRead (s.setR16 p v) x = busRead s x :=
  busRead_congr (by simp) (by simp) (by simp) (by simp) (by simp) (by simp) (.inr (by simp))

@[simp] theorem busRead_setSp (s : State) (v : Word) (x : Word) : busRead (s.setSp v) x = busRead s x :=
  busRead_congr (by simp) (by simp) (by simp) (by simp) (by simp) (by simp) (.inr (by simp))

@[simp] theorem busRead_setPc (s : State) (v : Word) (x : Word) : busRead (s.setPc v) x = busRead s x :=
  busRead_congr (by simp) (by simp) (by simp) (by simp) (by simp) (by simp) (.inr (by simp))

@[simp] theorem busRead_setIme (s : State) (v : Bool) (x : Word) : busRead (s.setIme v) x = busRead s x :=
  busRead_congr (by simp) (by simp) (by simp) (by simp) (by simp) (by simp) (.inr (by simp))

@[simp] theorem busRead_setHalted (s : State) (v : Bool) (x : Word) : busRead (s.setHalted v) x = busRead s x :=
  busRead_congr (by simp) (by simp) (by simp) (by simp) (by simp) (by simp) (.inr (by simp))

@[simp] theorem busRead_setCost (s : State) (n : Nat) (x : Word) : busRead (s.setCost n) x = busRead s x :=
  busRead_congr (by simp) (by simp) (by simp) (by simp) (by simp) (by simp) (.inr (by simp))

@[simp] theorem busRead_setFlags (s : State) (f : Flags) (x : Word) : busRead (s.setFlags f) x = busRead s x :=
  busRead_congr (by simp) (by simp) (by simp) (by simp) (by simp) (by simp) (.inr (by simp))

/-! ### The stack -/

/-- What `Push16` does: two bus writes below SP, the high byte first (R100). -/
theorem push16_eq (s : State) (v : Word) :
    push16 s v = busWrite ((busWrite (s.setSp (s.sp.value - 1)) (s.sp.value - 1) (hi8 v)).setSp (s.sp.value - 1 - 1))
      (s.sp.value - 1 - 1) (lo8 v) := by
  simp [push16]

@[simp] theorem push16_sp (s : State) (v : Word) : (push16 s v).sp = .ofWord (s.sp.value - 1 - 1) := by
  simp [push16_eq]

@[simp] theorem push16_af (s : State) (v : Word) : (push16 s v).af = s.af := by simp [push16_eq]

@[simp] theorem push16_bc (s : State) (v : Word) : (push16 s v).bc = s.bc := by simp [push16_eq]

@[simp] theorem push16_de (s : State) (v : Word) : (push16 s v).de = s.de := by simp [push16_eq]

@[simp] theorem push16_hl (s : State) (v : Word) : (push16 s v).hl = s.hl := by simp [push16_eq]

@[simp] theorem push16_pc (s : State) (v : Word) : (push16 s v).pc = s.pc := by simp [push16_eq]

@[simp] theorem push16_halted (s : State) (v : Word) : (push16 s v).halted = s.halted := by simp [push16_eq]

@[simp] theorem push16_ime (s : State) (v : Word) : (push16 s v).ime = s.ime := by simp [push16_eq]

@[simp] theorem push16_bankingType (s : State) (v : Word) : (push16 s v).bankingType = s.bankingType := by simp [push16_eq]

@[simp] theorem push16_rom (s : State) (v : Word) : (push16 s v).rom = s.rom := by simp [push16_eq]

@[simp] theorem push16_romLen (s : State) (v : Word) : (push16 s v).romLen = s.romLen := by simp [push16_eq]

@[simp] theorem push16_cbMode (s : State) (v : Word) : (push16 s v).cbMode = s.cbMode := by simp [push16_eq]

@[simp] theorem push16_intVectors (s : State) (v : Word) : (push16 s v).intVectors = s.intVectors := by simp [push16_eq]

@[simp] theorem push16_intAgent (s : State) (v : Word) : (push16 s v).intAgent = s.intAgent := by simp [push16_eq]

@[simp] theorem push16_cost (s : State) (v : Word) : (push16 s v).cost = s.cost := by simp [push16_eq]

@[simp] theorem getR8_push16 (s : State) (v : Word) (q : Reg8) : (push16 s v).getR8 q = s.getR8 q := by
  simp [push16_eq]

@[simp] theorem push16_platBehaviour (s : State) (v : Word) :
    (push16 s v).platBehaviour =
      (s.platBehaviour.note (.write (s.sp.value - 1) (hi8 v))).note (.write (s.sp.value - 1 - 1) (lo8 v)) := by
  simp [push16_eq]

/-- What `Pop16` does: two bus reads, the second after the first, then SP two higher (R101). -/
theorem pop16_eq (s : State) :
    pop16 s =
      match busRead s s.sp.value with
      | .error f => .error f
      | .ok lo =>
        match busRead (s.noteRead s.sp.value) (s.sp.value + 1) with
        | .error f => .error f
        | .ok hi => .ok (joinBytes hi lo, ((s.noteRead s.sp.value).noteRead (s.sp.value + 1)).setSp (s.sp.value + 1 + 1)) := by
  cases e1 : busRead s s.sp.value with
  | error f => simp [pop16, readByte, e1]
  | ok lo =>
    cases e2 : busRead (s.noteRead s.sp.value) (s.sp.value + 1) with
    | error f =>
      simp only [pop16, readByte, e1, State.noteRead_sp, State.setSp_sp, RegisterPair.value_ofWord, busRead_setSp, e2]
    | ok hi =>
      simp only [pop16, readByte, e1, State.noteRead_sp, State.setSp_sp, RegisterPair.value_ofWord, busRead_setSp, e2]
      rfl

/-- A pop that completes. -/
theorem pop16_ok {s t : State} {v : Word} (h : pop16 s = .ok (v, t)) :
    ∃ lo hi, busRead s s.sp.value = .ok lo ∧ busRead (s.noteRead s.sp.value) (s.sp.value + 1) = .ok hi ∧ v = joinBytes hi lo ∧
      t = ((s.noteRead s.sp.value).noteRead (s.sp.value + 1)).setSp (s.sp.value + 1 + 1) := by
  rw [pop16_eq] at h
  split at h
  · cases h
  · next lo e1 =>
    split at h
    · cases h
    · next hi e2 => cases h; exact ⟨lo, hi, e1, e2, rfl, rfl⟩

/-- The only reason a pop stops. -/
theorem pop16_error {s : State} {f : Fault} (h : pop16 s = .error f) : ∃ a, busRead s a = .error f := by
  rw [pop16_eq] at h
  split at h
  · next e => cases h; exact ⟨_, e⟩
  · split at h
    · next e => cases h; exact ⟨_, busRead_error_congr (s := s) (t := s.noteRead s.sp.value) rfl rfl rfl e⟩
    · cases h

/-! ### Fetch -/

/-- A fetch of one byte is one bus read, and advances PC (R81). -/
theorem fetch8_ok {s t : State} {b : Byte} (h : fetch8 s = .ok (b, t)) :
    busRead s s.pc = .ok b ∧ t = (s.noteRead s.pc).setPc (s.pc + 1) := by
  unfold fetch8 readByte at h
  split at h
  · cases h
  · next e => split at e <;> cases e; cases h; exact ⟨‹_›, rfl⟩

theorem fetch8_error {s : State} {f : Fault} (h : fetch8 s = .error f) : busRead s s.pc = .error f := by
  unfold fetch8 readByte at h
  split at h
  · next e => split at e <;> cases e; cases h; assumption
  · cases h

/-- `t` is `s` after bytes have been read, wherever they stand, and with PC set anew each time. -/
inductive Fetched (s : State) : State → Prop where
  | start : Fetched s s
  | read {t : State} (h : Fetched s t) (a pc : Word) : Fetched s ((t.noteRead a).setPc pc)

/-- Fetching changes nothing but PC and what an oracle has seen. -/
theorem Fetched.eq {s t : State} (h : Fetched s t) : t = { s with pc := t.pc, platBehaviour := t.platBehaviour } := by
  induction h with
  | start => rfl
  | read _ a pc ih => rw [ih]; rfl

/-- A fetch of a whole instruction reads bytes and moves PC (R81, R88). -/
theorem fetchInstr_ok {s t : State} {i : Instr} (h : fetchInstr s = .ok (i, t)) :
    (∃ op b1 b2, i = decodeOp op b1 b2) ∧ Fetched s t := by
  unfold fetchInstr at h
  split at h
  · cases h
  · next op s1 e1 =>
    obtain ⟨_, rfl⟩ := fetch8_ok e1
    have f1 := (Fetched.start (s := s)).read s.pc (s.pc + 1)
    split at h
    · cases h; exact ⟨⟨_, _, _, rfl⟩, f1⟩
    · split at h
      · cases h
      · next e2 => obtain ⟨_, rfl⟩ := fetch8_ok e2; cases h; exact ⟨⟨_, _, _, rfl⟩, f1.read _ _⟩
    · split at h
      · cases h
      · next e2 =>
        obtain ⟨_, rfl⟩ := fetch8_ok e2
        split at h
        · cases h
        · next e3 => obtain ⟨_, rfl⟩ := fetch8_ok e3; cases h; exact ⟨⟨_, _, _, rfl⟩, (f1.read _ _).read _ _⟩

/-- An abort met after fetching bytes is the abort of a bus read of the state before. -/
theorem Fetched.fetch8_error {s t : State} (h : Fetched s t) {f : Fault} (e : fetch8 t = .error f) : ∃ a, busRead s a = .error f := by
  refine ⟨_, busRead_error_congr ?_ ?_ ?_ (Machine.fetch8_error e)⟩ <;> rw [h.eq]

theorem fetchInstr_error {s : State} {f : Fault} (h : fetchInstr s = .error f) : ∃ a, busRead s a = .error f := by
  unfold fetchInstr at h
  split at h
  · next e => cases h; exact Fetched.start.fetch8_error e
  · next e1 =>
    obtain ⟨_, rfl⟩ := fetch8_ok e1
    have f1 := (Fetched.start (s := s)).read s.pc (s.pc + 1)
    split at h
    · cases h
    · split at h
      · next e => cases h; exact f1.fetch8_error e
      · cases h
    · split at h
      · next e => cases h; exact f1.fetch8_error e
      · next e2 =>
        obtain ⟨_, rfl⟩ := fetch8_ok e2
        split at h
        · next e => cases h; exact (f1.read _ _).fetch8_error e
        · cases h

/-! ### Ends of a step -/

@[simp] theorem finish_eq (n : Nat) (s : State) : finish n s = .next (s.setCost n) := rfl

theorem withByte_ok {s : State} {a : Word} {v : Byte} (h : busRead s a = .ok v) (k : Byte → State → Result) :
    withByte s a k = k v (s.noteRead a) := by
  simp [withByte, readByte, h]

theorem withByte_error {s : State} {a : Word} {f : Fault} (h : busRead s a = .error f) (k : Byte → State → Result) :
    withByte s a k = .fault f := by
  simp [withByte, readByte, h]

theorem withPop_ok {s t : State} {v : Word} (h : pop16 s = .ok (v, t)) (k : Word → State → Result) : withPop s k = k v t := by
  simp [withPop, h]

theorem withPop_error {s : State} {f : Fault} (h : pop16 s = .error f) (k : Word → State → Result) :
    withPop s k = .fault f := by
  simp [withPop, h]

/-! ### Whose turn it is -/

/-- Without a move of the collaborator first, a step is the CPU's (R250). -/
theorem step_cpu {s : State} (h : (takeTurn s).1 = .cpu) : step s = cpuStep (takeTurn s).2 := by
  unfold step
  split
  · next e => simp [e]
  · next e => simp [e] at h
  · next e => simp [e] at h

/-- With no collaborator, every step is the CPU's (R250). -/
theorem step_of_no_agent {s : State} (h : s.intAgent = none) : step s = cpuStep s := by
  have e : takeTurn s = (.cpu, s) := by simp [takeTurn, h]
  rw [step_cpu (by rw [e]), e]

end Sys2Proof.Machine
end

