-- ==== Sys2Proof/Laws/Exec.lean ====
section
/-! SUPPORT. What executing an instruction can do, said once: the next state is built from the state before by the named updates, and the only
abort beside that of an unassigned value is that of a bus read. A property that every named update keeps is kept by every instruction. -/

namespace Sys2Proof.Machine

/-- `t` is made from `s` by the updates an instruction or the collaborator is built of. -/
inductive Built (s : State) : State → Prop where
  | start : Built s s
  | setR8 {t : State} (h : Built s t) (r : Reg8) (v : Byte) : Built s (t.setR8 r v)
  | setR16 {t : State} (h : Built s t) (p : Reg16) (v : Word) : Built s (t.setR16 p v)
  | setSp {t : State} (h : Built s t) (v : Word) : Built s (t.setSp v)
  | setPc {t : State} (h : Built s t) (v : Word) : Built s (t.setPc v)
  | setIme {t : State} (h : Built s t) (v : Bool) : Built s (t.setIme v)
  | setHalted {t : State} (h : Built s t) (v : Bool) : Built s (t.setHalted v)
  | setFlags {t : State} (h : Built s t) (f : Flags) : Built s (t.setFlags f)
  | setCost {t : State} (h : Built s t) (n : Nat) : Built s (t.setCost n)
  | loadAF {t : State} (h : Built s t) (a : Byte) (f : BitVec 4) : Built s { t with af := ⟨a, f ++ (0 : BitVec 4)⟩ }
  | busWrite {t : State} (h : Built s t) (a : Word) (v : Byte) : Built s (busWrite t a v)
  | noteRead {t : State} (h : Built s t) (a : Word) : Built s (t.noteRead a)

/-- A property every named update keeps holds of what is built from a state that has it. -/
theorem Built.keeps {P : State → Prop} {s t : State} (h : Built s t) (hs : P s)
    (setR8 : ∀ u r v, P u → P (u.setR8 r v)) (setR16 : ∀ u p v, P u → P (u.setR16 p v))
    (setSp : ∀ u v, P u → P (u.setSp v)) (setPc : ∀ u v, P u → P (u.setPc v))
    (setIme : ∀ u v, P u → P (u.setIme v)) (setHalted : ∀ u v, P u → P (u.setHalted v))
    (setFlags : ∀ u f, P u → P (u.setFlags f)) (setCost : ∀ u n, P u → P (u.setCost n))
    (loadAF : ∀ u a (f : BitVec 4), P u → P { u with af := ⟨a, f ++ (0 : BitVec 4)⟩ })
    (write : ∀ u a v, P u → P (Machine.busWrite u a v)) (noteRead : ∀ u a, P u → P (u.noteRead a)) : P t := by
  induction h with
  | start => exact hs
  | setR8 _ r v ih => exact setR8 _ r v ih
  | setR16 _ p v ih => exact setR16 _ p v ih
  | setSp _ v ih => exact setSp _ v ih
  | setPc _ v ih => exact setPc _ v ih
  | setIme _ v ih => exact setIme _ v ih
  | setHalted _ v ih => exact setHalted _ v ih
  | setFlags _ f ih => exact setFlags _ f ih
  | setCost _ n ih => exact setCost _ n ih
  | loadAF _ a f ih => exact loadAF _ a f ih
  | busWrite _ a v ih => exact write _ a v ih
  | noteRead _ a ih => exact noteRead _ a ih

theorem Built.push16 {s t : State} (h : Built s t) (v : Word) : Built s (push16 t v) := by
  rw [push16_eq]
  exact (((h.setSp _).busWrite _ _).setSp _).busWrite _ _

theorem Built.memWrite16 {s t : State} (h : Built s t) (a v : Word) : Built s (memWrite16 t a v) :=
  (h.busWrite _ _).busWrite _ _

theorem Built.putOperand {s t : State} (h : Built s t) (o : Operand8) (v : Byte) : Built s (putOperand t o v) := by
  cases o with
  | reg r => exact h.setR8 r v
  | atHL => exact h.busWrite _ _

theorem Built.applyAlu {s t : State} (h : Built s t) (op : AluOp) (v : Byte) : Built s (applyAlu op v t) := by
  cases op <;> first | exact (h.setR8 _ _).setFlags _ | exact h.setFlags _

/-- The costs a step returns (R94). -/
abbrev IsCost (n : Nat) : Prop := n ∈ [4, 8, 12, 16, 20, 24]

/-- An outcome is a state built from `s`, with one of the six costs, or the abort of a bus read. -/
def Builds (s : State) (r : Result) : Prop :=
  (∃ t, Built s t ∧ IsCost t.cost ∧ r = .next t) ∨ ∃ a f, busRead s a = .error f ∧ r = .fault f

theorem builds_finish {s t : State} (h : Built s t) {n : Nat} (hn : IsCost n := by decide) : Builds s (finish n t) :=
  .inl ⟨_, h.setCost n, hn, rfl⟩

theorem builds_withByte {s : State} {a : Word} {k : Byte → State → Result} (h : ∀ v t, Built s t → Builds s (k v t)) :
    Builds s (withByte s a k) := by
  cases e : busRead s a with
  | ok v => rw [withByte_ok e]; exact h v _ (Built.start.noteRead a)
  | error f => rw [withByte_error e]; exact .inr ⟨a, f, e, rfl⟩

theorem builds_withPop {s : State} {k : Word → State → Result}
    (h : ∀ v t, Built s t → Builds s (k v t)) : Builds s (withPop s k) := by
  unfold withPop
  split
  · next e =>
    obtain ⟨_, _, _, _, _, rfl⟩ := pop16_ok e
    exact h _ _ (((Built.start.noteRead _).noteRead _).setSp _)
  · next e => obtain ⟨a, ha⟩ := pop16_error e; exact .inr ⟨a, _, ha, rfl⟩

theorem builds_withOperand {s : State} {o : Operand8} {k : Byte → State → Result} (h : ∀ v t, Built s t → Builds s (k v t)) :
    Builds s (withOperand s o k) := by
  cases o with
  | reg r => exact h _ _ .start
  | atHL => exact builds_withByte h

theorem builds_withSource {s : State} {src : AluSrc} {k : Byte → State → Result} (h : ∀ v t, Built s t → Builds s (k v t)) :
    Builds s (withSource s src k) := by
  cases src with
  | reg r => exact h _ _ .start
  | atHL => exact builds_withByte h
  | imm d8 => exact h _ _ .start

theorem isCost_extendedCost (o : Operand8) : IsCost (extendedCost o) := by cases o <;> simp [IsCost, extendedCost]

theorem isCost_aluCost (src : AluSrc) : IsCost (aluCost src) := by cases src <;> simp [IsCost, aluCost]

theorem builds_branchIf {s : State} {taken : Result} (h : Builds s taken) (c : Cond) {n : Nat} (hn : IsCost n := by decide) :
    Builds s (branchIf c taken n s) := by
  unfold branchIf
  split
  · exact h
  · exact builds_finish .start hn

theorem builds_returnTo (s : State) {n : Nat} (hn : IsCost n := by decide) : Builds s (returnTo n s) :=
  builds_withPop fun v _ b => builds_finish (b.setPc v) hn

theorem builds_popPair (s : State) (p : Reg16) : Builds s (popPair p s) :=
  builds_withPop fun v _ b => builds_finish (b.setR16 p v)

theorem builds_liveOrStub {s : State} (o : Operand8) {live : State → Result} (h : Builds s (live s)) :
    Builds s (liveOrStub o live s) := by
  unfold liveOrStub
  split
  · exact h
  · exact builds_finish .start (isCost_extendedCost o)

theorem builds_rotateOperand (s : State) (op : RotOp) (o : Operand8) : Builds s (rotateOperand op o s) :=
  builds_withOperand fun _ _ b => builds_finish ((b.putOperand o _).setFlags _) (isCost_extendedCost o)

theorem builds_liveBit (s : State) (b : Nat) (o : Operand8) : Builds s (liveBit b o s) :=
  builds_withOperand fun _ _ b => builds_finish (b.setFlags _) (isCost_extendedCost o)

theorem builds_liveRes (s : State) (b : Nat) (o : Operand8) : Builds s (liveRes b o s) :=
  builds_withOperand fun _ _ b => builds_finish (b.putOperand o _) (isCost_extendedCost o)

theorem builds_liveSet (s : State) (b : Nat) (o : Operand8) : Builds s (liveSet b o s) :=
  builds_withOperand fun _ _ b => builds_finish (b.putOperand o _) (isCost_extendedCost o)

theorem builds_runExtended (s : State) (x : Byte) : Builds s (runExtended x s) := by
  simp only [runExtended]
  split
  · split
    · exact builds_rotateOperand s _ _
    · exact builds_liveOrStub _ (builds_rotateOperand s _ _)
  · exact builds_liveOrStub _ (builds_liveBit s _ _)
  · exact builds_liveOrStub _ (builds_liveRes s _ _)
  · exact builds_liveOrStub _ (builds_liveSet s _ _)

/-- Every instruction but an unassigned value gives a state built from the one before, at one of the six costs, or the abort of a bus read. -/
theorem exec_builds (i : Instr) (s : State) (hu : ∀ op, i ≠ .unassigned op) : Builds s (exec i s) := by
  cases family i with
  | unassigned op => exact absurd rfl (hu op)
  | nop => exact builds_finish .start
  | halt => exact builds_finish (Built.start.setHalted true)
  | di => exact builds_finish (Built.start.setIme false)
  | ei => exact builds_finish (Built.start.setIme true)
  | prefixCB x => exact builds_runExtended s x
  | ldReg d r => rw [exec_ldReg]; exact builds_finish (Built.start.setR8 d _)
  | ldRegImm d d8 => rw [exec_ldRegImm]; exact builds_finish (Built.start.setR8 d _)
  | ldRegAtHL d => rw [exec_ldRegAtHL]; exact builds_withByte fun v _ b => builds_finish (b.setR8 d v)
  | ldAtHLReg r => rw [exec_ldAtHLReg]; exact builds_finish (Built.start.busWrite _ _)
  | ld_atHL_d8 d8 => exact builds_finish (Built.start.busWrite _ _)
  | ld_atBC_A => exact builds_finish (Built.start.busWrite _ _)
  | ld_atDE_A => exact builds_finish (Built.start.busWrite _ _)
  | ld_atC_A => exact builds_finish (Built.start.busWrite _ _)
  | ldh_atA8_A a8 => exact builds_finish (Built.start.busWrite _ _)
  | ld_atA16_A a16 => exact builds_finish (Built.start.busWrite _ _)
  | ld_A_atBC => exact builds_withByte fun v _ b => builds_finish (b.setR8 .A v)
  | ld_A_atDE => exact builds_withByte fun v _ b => builds_finish (b.setR8 .A v)
  | ld_A_atC => exact builds_withByte fun v _ b => builds_finish (b.setR8 .A v)
  | ldh_A_atA8 a8 => exact builds_withByte fun v _ b => builds_finish (b.setR8 .A v)
  | ld_A_atA16 a16 => exact builds_withByte fun v _ b => builds_finish (b.setR8 .A v)
  | ld_atHLinc_A => exact builds_finish ((Built.start.busWrite _ _).setR16 .HL _)
  | ld_atHLdec_A => exact builds_finish ((Built.start.busWrite _ _).setR16 .HL _)
  | ld_A_atHLinc => exact builds_withByte fun v _ b => builds_finish ((b.setR8 .A v).setR16 .HL _)
  | ld_A_atHLdec => exact builds_withByte fun v _ b => builds_finish ((b.setR8 .A v).setR16 .HL _)
  | ldPairImm p d16 => rw [exec_ldPairImm]; exact builds_finish (Built.start.setR16 p _)
  | ld_SP_HL => exact builds_finish (Built.start.setR16 .SP _)
  | ld_atA16_SP a16 => exact builds_finish (Built.start.memWrite16 _ _)
  | ld_HL_SPe8 e8 => exact builds_finish ((Built.start.setR16 .HL _).setFlags _)
  | add_SP_e8 e8 => exact builds_finish ((Built.start.setR16 .SP _).setFlags _)
  | push p => rw [exec_push]; exact builds_finish (Built.start.push16 _)
  | pop p =>
    cases p with
    | BC => exact builds_popPair s .BC
    | DE => exact builds_popPair s .DE
    | HL => exact builds_popPair s .HL
    | AF => exact builds_withPop fun _ _ b => builds_finish (b.loadAF _ _)
  | incReg r => rw [exec_incReg]; exact builds_finish ((Built.start.setR8 r _).setFlags _)
  | decReg r => rw [exec_decReg]; exact builds_finish ((Built.start.setR8 r _).setFlags _)
  | inc_atHL => exact builds_withByte fun _ _ b => builds_finish ((b.busWrite _ _).setFlags _)
  | dec_atHL => exact builds_withByte fun _ _ b => builds_finish ((b.busWrite _ _).setFlags _)
  | incPair p => rw [exec_incPair]; exact builds_finish (Built.start.setR16 p _)
  | decPair p => rw [exec_decPair]; exact builds_finish (Built.start.setR16 p _)
  | jr_e8 e8 => exact builds_finish (Built.start.setPc _)
  | jp_a16 a16 => exact builds_finish (Built.start.setPc _)
  | jp_HL => exact builds_finish (Built.start.setPc _)
  | jrIf c e8 => rw [exec_jrIf]; exact builds_branchIf (builds_finish (Built.start.setPc _)) c
  | jpIf c a16 => rw [exec_jpIf]; exact builds_branchIf (builds_finish (Built.start.setPc _)) c
  | call_a16 a16 => exact builds_finish ((Built.start.push16 _).setPc _)
  | callIf c a16 => rw [exec_callIf]; exact builds_branchIf (builds_finish ((Built.start.push16 _).setPc _)) c
  | rst n => rw [exec_rst]; exact builds_finish ((Built.start.push16 _).setPc _)
  | ret => exact builds_returnTo s
  | retIf c => rw [exec_retIf]; exact builds_branchIf (builds_returnTo s) c
  | reti => exact builds_withPop fun v _ b => builds_finish ((b.setPc v).setIme true)
  | alu op src =>
    rw [exec_alu]
    exact builds_withSource fun v _ b => builds_finish (b.applyAlu op v) (isCost_aluCost src)
  | addHL p => rw [exec_addHL]; exact builds_finish ((Built.start.setR16 .HL _).setFlags _)
  | daa => exact builds_finish ((Built.start.setR8 .A _).setFlags _)
  | rlca => exact builds_finish ((Built.start.setR8 .A _).setFlags _)
  | rla => exact builds_finish ((Built.start.setR8 .A _).setFlags _)
  | rrca => exact builds_finish ((Built.start.setR8 .A _).setFlags _)
  | rra => exact builds_finish ((Built.start.setR8 .A _).setFlags _)
  | cpl => exact builds_finish ((Built.start.setR8 .A _).setFlags _)
  | scf => exact builds_finish (Built.start.setFlags _)
  | ccf => exact builds_finish (Built.start.setFlags _)
  | rot op o =>
    rw [exec_rot]
    split
    · exact builds_rotateOperand s op o
    · exact builds_liveOrStub o (builds_rotateOperand s op o)
  | bitOp b o => rw [exec_bitOp]; exact builds_liveOrStub o (builds_liveBit s _ o)
  | resOp b o => rw [exec_resOp]; exact builds_liveOrStub o (builds_liveRes s _ o)
  | setOp b o => rw [exec_setOp]; exact builds_liveOrStub o (builds_liveSet s _ o)

/-- An unassigned value aborts, PC being one past it (R241). -/
theorem exec_unassigned (op : Byte) (s : State) : exec (.unassigned op) s = .fault (.undefinedOpcode op (s.pc - 1)) := rfl

/-- Fetching builds too: reads, and PC past them. -/
theorem Fetched.built {s t : State} (h : Fetched s t) : Built s t := by
  induction h with
  | start => exact .start
  | read _ a pc ih => exact (ih.noteRead a).setPc pc

theorem Built.trans {s t u : State} (h : Built s t) (k : Built t u) : Built s u :=
  k.keeps (P := Built s) h (fun _ r v b => b.setR8 r v) (fun _ p v b => b.setR16 p v) (fun _ v b => b.setSp v)
    (fun _ v b => b.setPc v) (fun _ v b => b.setIme v) (fun _ v b => b.setHalted v) (fun _ f b => b.setFlags f)
    (fun _ n b => b.setCost n) (fun _ a f b => b.loadAF a f) (fun _ a v b => b.busWrite a v) (fun _ a b => b.noteRead a)

/-- Taking a turn changes nothing but the turns left. -/
theorem takeTurn_eq (s : State) : ∃ agent, (takeTurn s).2 = { s with intAgent := agent } := by
  unfold takeTurn
  split <;> exact ⟨_, rfl⟩

/-- Every step, of the CPU or of the collaborator, gives a state built from the one before with its turn used up. -/
theorem step_built {s t : State} (h : step s = .next t) : ∃ agent, Built { s with intAgent := agent } t := by
  obtain ⟨agent, ht⟩ := takeTurn_eq s
  refine ⟨agent, ?_⟩
  rw [← ht]
  unfold step at h
  split at h
  · next e =>
    rw [e]
    unfold cpuStep at h
    split at h
    · cases h; exact Built.start.setCost 4
    · split at h
      · cases h
      · next i s2 ef =>
        obtain ⟨_, f⟩ := fetchInstr_ok ef
        by_cases hu : ∃ op, i = .unassigned op
        · obtain ⟨op, rfl⟩ := hu; cases h
        · rcases exec_builds i s2 (fun op he => hu ⟨op, he⟩) with ⟨u, b, _, e⟩ | ⟨_, _, _, e⟩
          · rw [e] at h; cases h; exact f.built.trans b
          · rw [e] at h; cases h
  · next e => rw [e]; cases h; exact Built.start.setHalted false
  · next v s' e =>
    rw [e]
    cases h
    unfold dispatch
    split
    · exact (((Built.start.setHalted false).push16 _).setPc v).setIme false
    · exact Built.start

end Sys2Proof.Machine
end

