-- ==== Sys2Proof/Laws/Frame.lean ====
section
/-! SUPPORT. What stores leave alone: `KeepsMemory` and `SameBus` for no store, one, and two, and the flags written. -/

namespace Sys2Proof.Machine

@[simp] theorem storesOf_nil : storesOf [] = [] := rfl

@[simp] theorem storesOf_read (a : Word) (xs : List BusAccess) : storesOf (.read a :: xs) = storesOf xs := rfl

@[simp] theorem storesOf_write (a : Word) (v : Byte) (xs : List BusAccess) : storesOf (.write a v :: xs) = a :: storesOf xs := rfl

@[simp] theorem PlatBehaviour.afterAll_nil (p : PlatBehaviour) : p.afterAll [] = p := rfl

@[simp] theorem PlatBehaviour.afterAll_cons (p : PlatBehaviour) (x : BusAccess) (xs : List BusAccess) :
    p.afterAll (x :: xs) = (p.note x).afterAll xs := rfl

theorem SameBus.refl (s : State) : SameBus s s := ⟨rfl, rfl, rfl, rfl, rfl, rfl⟩

theorem SameBus.symm {s t : State} (h : SameBus s t) : SameBus t s :=
  ⟨h.1.symm, h.2.1.symm, h.2.2.1.symm, h.2.2.2.1.symm, h.2.2.2.2.1.symm, h.2.2.2.2.2.symm⟩

theorem SameBus.trans {s t u : State} (h : SameBus s t) (k : SameBus t u) : SameBus s u :=
  ⟨h.1.trans k.1, h.2.1.trans k.2.1, h.2.2.1.trans k.2.2.1, h.2.2.2.1.trans k.2.2.2.1,
    h.2.2.2.2.1.trans k.2.2.2.2.1, h.2.2.2.2.2.trans k.2.2.2.2.2⟩

/-- Reading leaves the bus as it was. -/
theorem SameBus.noteRead (s : State) (a : Word) : SameBus (s.noteRead a) s := SameBus.refl s

/-- States with one bus and one image read alike, where no oracle tells them apart. -/
theorem SameBus.read {s t : State} (h : SameBus t s) (h1 : t.rom = s.rom) (h2 : t.romLen = s.romLen) {a : Word}
    (h3 : inPlatform a.toNat = false ∨ t.platBehaviour = s.platBehaviour) : busRead t a = busRead s a :=
  busRead_congr h1 h2 h.2.1 h.1 h.2.2.1 h.2.2.2.1 h3

/-- A bus write acts alike on states with one bus, one banking type and one kind of platform. -/
theorem SameBus.write {s t : State} (h : SameBus t s) (h1 : t.bankingType = s.bankingType)
    (h2 : t.platBehaviour = .flatRam ↔ s.platBehaviour = .flatRam) (a : Word) (v : Byte) :
    SameBus (busWrite t a v) (busWrite s a v) := by
  obtain ⟨p, r, b, c, m, e⟩ := h
  have hp : (platWrite t a v).plat = (platWrite s a v).plat := by
    rcases platWrite_plat t a v with ⟨f1, e1⟩ | ⟨f1, e1⟩ <;> rcases platWrite_plat s a v with ⟨f2, e2⟩ | ⟨f2, e2⟩
    · rw [e1, e2, p]
    · exact absurd (h2.1 f1) f2
    · exact absurd (h2.2 f2) f1
    · rw [e1, e2, p]
  unfold busWrite manageBanking ramToggle romBankLow upperOrRam modeSelect ramOffset
  rw [h1, r, b, c, m, e]
  repeat' split
  all_goals exact ⟨by first | exact hp | exact p, by simp [r], by simp [b], by simp [c], by simp [m], by simp [e]⟩

/-- Nothing stored: nothing changed. -/
theorem KeepsMemory.of_sameBus {stores : List Word} {s t : State} (h : SameBus t s) (h1 : t.rom = s.rom)
    (h2 : t.romLen = s.romLen) : KeepsMemory stores s t :=
  ⟨h1, h2, fun _ => ⟨h.2.2.1, h.2.2.2.1, h.2.2.2.2.1, h.2.2.2.2.2, fun _ _ => h.read h1 h2⟩,
    fun _ _ => by rw [h.1], fun _ _ => by rw [h.2.1], fun _ => h.2.1⟩

/-- What one bus write leaves alone. -/
theorem KeepsMemory.busWrite (s : State) (a : Word) (v : Byte) : KeepsMemory [a] s (busWrite s a v) := by
  have ha : a.toNat < 0x10000 := a.isLt
  refine ⟨by simp, by simp, ?_, ?_, ?_, ?_⟩
  · intro hb
    have h8 : 0x8000 ≤ a.toNat := hb a (by simp)
    rcases busWrite_cases s a v with ⟨h, _⟩ | ⟨_, e⟩ | ⟨_, _, _, e⟩ | ⟨_, _, _, e⟩
    · omega
    · rw [e]
      refine ⟨rfl, rfl, rfl, rfl, fun x hx hx' => ?_⟩
      have hne : x.toNat ≠ a.toNat := fun h => hx (by simp [BitVec.eq_of_toNat_eq h])
      refine busRead_of_platRead (s := s) (t := platWrite s a v) rfl rfl rfl rfl rfl (hx'.imp_right fun hb => ?_)
      rcases platWrite_plat s a v with ⟨hf, ep⟩ | ⟨_, ep⟩
      · unfold platRead; rw [hb, hf, ep, Memory.read_write_ne hne]
      · unfold platRead; rw [hb, ep]
    · rw [e]
      refine ⟨rfl, rfl, rfl, rfl, fun x hx _ => ?_⟩
      have hne : x.toNat ≠ a.toNat := fun h => hx (by simp [BitVec.eq_of_toNat_eq h])
      show busRead { s with ramBanks := s.ramBanks.write (ramOffset s a) v } x = busRead s x
      unfold busRead romAt romWindowOffset
      split
      · rfl
      · split
        · rfl
        · split
          · rfl
          · split
            · have ho : ramOffset s x ≠ ramOffset s a := by unfold ramOffset; omega
              exact congrArg Except.ok (Memory.read_write_ne ho _ _)
            · rfl
    · rw [e]; exact ⟨rfl, rfl, rfl, rfl, fun _ _ _ => rfl⟩
  · intro off h
    have hne : off ≠ a.toNat := fun e => h a (by simp) e.symm
    obtain ⟨_, _, _, _, hm⟩ := manageBanking_eq s a v
    rcases busWrite_cases s a v with ⟨_, e⟩ | ⟨_, e⟩ | ⟨_, _, _, e⟩ | ⟨_, _, _, e⟩
    · rw [e, hm]
    · rcases platWrite_plat s a v with ⟨_, ep⟩ | ⟨_, ep⟩
      · rw [e, ep]; exact Memory.read_write_ne hne _ _
      · rw [e, ep]
    · rw [e]
    · rw [e]
  · intro off h
    obtain ⟨_, _, _, _, hm⟩ := manageBanking_eq s a v
    rcases busWrite_cases s a v with ⟨_, e⟩ | ⟨_, e⟩ | ⟨h1, h2, _, e⟩ | ⟨_, _, _, e⟩
    · rw [e, hm]
    · rw [e, platWrite_ramBanks]
    · rw [e]; exact Memory.read_write_ne (fun k => h a (by simp) h1 h2 k.symm) _ _
    · rw [e]
  · intro h
    have h' := h a (by simp)
    obtain ⟨_, _, _, _, hm⟩ := manageBanking_eq s a v
    rcases busWrite_cases s a v with ⟨_, e⟩ | ⟨_, e⟩ | ⟨h1, h2, _, e⟩ | ⟨_, _, _, e⟩
    · rw [e, hm]
    · rw [e, platWrite_ramBanks]
    · omega
    · rw [e]

/-- The RAM bank changes only by a control write. -/
theorem busWrite_currentRamBank_of_le {s : State} {a : Word} (h : 0x8000 ≤ a.toNat) (v : Byte) :
    (Machine.busWrite s a v).currentRamBank = s.currentRamBank := by
  rcases busWrite_cases s a v with ⟨_, e⟩ | ⟨_, e⟩ | ⟨_, _, _, e⟩ | ⟨_, _, _, e⟩
  · omega
  all_goals simp [e]

/-- What two bus writes leave alone, where the second is not in the RAM window after a control write: always so at adjacent addresses. What an
oracle has seen only grows (`PlatBehaviour.note_of_note_note`). -/
theorem KeepsMemory.two {s t u : State} {a b : Word} (h : KeepsMemory [a] s t) (k : KeepsMemory [b] t u)
    (hp : u.platBehaviour = s.platBehaviour → t.platBehaviour = s.platBehaviour)
    (hb : t.currentRamBank = s.currentRamBank ∨ b.toNat < 0xA000 ∨ 0xC000 ≤ b.toNat) : KeepsMemory [a, b] s u := by
  obtain ⟨r1, l1, m1, p1, q1, w1⟩ := h
  obtain ⟨r2, l2, m2, p2, q2, w2⟩ := k
  refine ⟨r2.trans r1, l2.trans l1, ?_, ?_, ?_, ?_⟩
  · intro hs
    obtain ⟨b1, c1, d1, e1, f1⟩ := m1 (by simpa using hs a (by simp))
    obtain ⟨b2, c2, d2, e2, f2⟩ := m2 (by simpa using hs b (by simp))
    exact ⟨b2.trans b1, c2.trans c1, d2.trans d1, e2.trans e1, fun x hx hb =>
      (f2 x (by simp at hx ⊢; exact hx.2) (hb.imp_right fun e => e.trans (hp e).symm)).trans
        (f1 x (by simp at hx ⊢; exact hx.1) (hb.imp_right hp))⟩
  · intro off hs
    exact (p2 off (by simpa using hs b (by simp))).trans (p1 off (by simpa using hs a (by simp)))
  · intro off hs
    refine Eq.trans (q2 off ?_) (q1 off (by simpa using hs a (by simp)))
    intro x hx h1 h2
    obtain rfl : x = b := by simpa using hx
    rcases hb with e | e
    · rw [e]; exact hs x (by simp) h1 h2
    · omega
  · intro hs
    exact (w2 (by simpa using hs b (by simp))).trans (w1 (by simpa using hs a (by simp)))

/-- Nothing but registers changed between: the frame of memory goes on. -/
theorem KeepsMemory.sameBus {stores : List Word} {s t u : State} (h : KeepsMemory stores s t) (k : SameBus u t)
    (h1 : u.rom = t.rom) (h2 : u.romLen = t.romLen) (h3 : u.platBehaviour = t.platBehaviour) : KeepsMemory stores s u := by
  obtain ⟨r1, l1, m1, p1, q1, w1⟩ := h
  obtain ⟨p, r, b, c, m, e⟩ := k
  refine ⟨h1.trans r1, h2.trans l1, fun hs => ?_, fun o ho => by rw [p]; exact p1 o ho,
    fun o ho => by rw [r]; exact q1 o ho, fun hs => by rw [r]; exact w1 hs⟩
  obtain ⟨b1, c1, d1, e1, f1⟩ := m1 hs
  exact ⟨b.trans b1, c.trans c1, m.trans d1, e.trans e1, fun a ha hb =>
    (busRead_congr h1 h2 r p b c (.inr h3)).trans (f1 a ha (hb.imp_right h3.symm.trans))⟩

/-- A read before: the frame of memory begins there. -/
theorem KeepsMemory.afterRead {stores : List Word} {s t : State} {x : Word} (h : KeepsMemory stores (s.noteRead x) t)
    (hp : t.platBehaviour = s.platBehaviour → s.platBehaviour.note (.read x) = s.platBehaviour) : KeepsMemory stores s t := by
  obtain ⟨r, l, m, p, q, w⟩ := h
  refine ⟨r, l, fun hs => ?_, p, q, w⟩
  obtain ⟨b, c, d, e, f⟩ := m hs
  exact ⟨b, c, d, e, fun a ha hb =>
    (f a ha (hb.imp_right fun k => k.trans (hp k).symm)).trans (busRead_congr (s := s) (t := s.noteRead x) rfl rfl rfl rfl rfl rfl (hb.imp_right hp))⟩

/-- The flags after an instruction that writes them and then returns its cost. -/
theorem flagsAre_setFlags (s : State) (f : Flags) (n : Nat) : FlagsAre ((s.setFlags f).setCost n) f.z f.n f.h f.c :=
  ⟨s.setFlags_fZ f, s.setFlags_fN f, s.setFlags_fH f, s.setFlags_fC f, f.byte_low⟩

end Sys2Proof.Machine
end

