-- ==== Sys2Proof/Tests/Slice0.lean ====
section
/-! SUPPORT. Tests. The expected values come from the spec: the words from the encodings of spec/30_encoding.md and spec/opcode_table.json, the
steps from the vectors X of spec/95_test_vectors.md, the rest from its sequences B, M, S, A and I; each test is named after its vector. At the end, one
witness for each statement that has hypotheses: a concrete state and operands that meet them. -/

namespace Sys2Proof.Tests

open Sys2Proof.Machine

/-- The state after reset with the bytes placed at `pc`, where the first step fetches. -/
def bootAt (pc : Word) (bs : List Byte) : State := placeBytes { State.reset with pc := pc } pc bs

/-- The same at the reset address of PC. -/
def boot (bs : List Byte) : State := bootAt 0x0100 bs

/-- What `f` sees in the state a step leads to. -/
def after {α : Type} (s : State) (f : State → α) : Option α :=
  match step s with
  | .next t => some (f t)
  | _ => none

/-- The abort a step ends in. -/
def abortOf (s : State) : Option Fault :=
  match step s with
  | .fault f => some f
  | _ => none

/-- The instruction a list of bytes begins with, and how many bytes are left. -/
def decoded (bs : List Byte) : Option (Instr × Nat) :=
  match decode bs with
  | .ok (i, rest) => some (i, rest.length)
  | .error _ => none

/-- What the sixteen opcode bytes from `hi` on decode to, each followed by 34 12. -/
def decodedRow (hi : Nat) : List (Option (Instr × Nat)) :=
  (List.range 16).map fun lo => decoded [BitVec.ofNat 8 (hi + lo), 0x34, 0x12]

/-- What the sixteen extended opcodes from `hi` on decode to. -/
def decodedExtendedRow (hi : Nat) : List (Option (Instr × Nat)) :=
  (List.range 16).map fun lo => decoded [0xCB, BitVec.ofNat 8 (hi + lo)]

/-! ## Well-formedness -/

theorem test_prefixCB_is_not_well_formed : (Instr.prefixCB 0x00).wellFormed = false := by decide

theorem test_unassigned_of_an_assigned_value_is_not_well_formed : (Instr.unassigned 0x00).wellFormed = false := by decide

theorem test_unassigned_of_the_prefix_is_not_well_formed : (Instr.unassigned 0xCB).wellFormed = false := by decide

theorem test_unassigned_of_an_unassigned_value_is_well_formed : (Instr.unassigned 0xFD).wellFormed = true := by decide

/-! ## Decoding: every opcode byte, sixteen at a time -/

theorem test_decode_00_to_0F : decodedRow 0x00 = [
    some (.nop, 2), some (.ld_BC_d16 0x1234, 0), some (.ld_atBC_A, 2), some (.inc_BC, 2), some (.inc_B, 2), some (.dec_B, 2),
    some (.ld_B_d8 0x34, 1), some (.rlca, 2), some (.ld_atA16_SP 0x1234, 0), some (.add_HL_BC, 2), some (.ld_A_atBC, 2), some (.dec_BC, 2),
    some (.inc_C, 2), some (.dec_C, 2), some (.ld_C_d8 0x34, 1), some (.rrca, 2)] := by decide

theorem test_decode_10_to_1F : decodedRow 0x10 = [
    some (.unassigned 0x10, 2), some (.ld_DE_d16 0x1234, 0), some (.ld_atDE_A, 2), some (.inc_DE, 2), some (.inc_D, 2), some (.dec_D, 2),
    some (.ld_D_d8 0x34, 1), some (.rla, 2), some (.jr_e8 0x34, 1), some (.add_HL_DE, 2), some (.ld_A_atDE, 2), some (.dec_DE, 2),
    some (.inc_E, 2), some (.dec_E, 2), some (.ld_E_d8 0x34, 1), some (.rra, 2)] := by decide

theorem test_decode_20_to_2F : decodedRow 0x20 = [
    some (.jr_NZ_e8 0x34, 1), some (.ld_HL_d16 0x1234, 0), some (.ld_atHLinc_A, 2), some (.inc_HL, 2), some (.inc_H, 2), some (.dec_H, 2),
    some (.ld_H_d8 0x34, 1), some (.daa, 2), some (.jr_Z_e8 0x34, 1), some (.add_HL_HL, 2), some (.ld_A_atHLinc, 2), some (.dec_HL, 2),
    some (.inc_L, 2), some (.dec_L, 2), some (.ld_L_d8 0x34, 1), some (.cpl, 2)] := by decide

theorem test_decode_30_to_3F : decodedRow 0x30 = [
    some (.jr_NC_e8 0x34, 1), some (.ld_SP_d16 0x1234, 0), some (.ld_atHLdec_A, 2), some (.inc_SP, 2), some (.inc_atHL, 2),
    some (.dec_atHL, 2), some (.ld_atHL_d8 0x34, 1), some (.scf, 2), some (.jr_C_e8 0x34, 1), some (.add_HL_SP, 2),
    some (.ld_A_atHLdec, 2), some (.dec_SP, 2), some (.inc_A, 2), some (.dec_A, 2), some (.ld_A_d8 0x34, 1), some (.ccf, 2)] := by decide

theorem test_decode_40_to_4F : decodedRow 0x40 = [
    some (.ld_B_B, 2), some (.ld_B_C, 2), some (.ld_B_D, 2), some (.ld_B_E, 2), some (.ld_B_H, 2), some (.ld_B_L, 2), some (.ld_B_atHL, 2),
    some (.ld_B_A, 2), some (.ld_C_B, 2), some (.ld_C_C, 2), some (.ld_C_D, 2), some (.ld_C_E, 2), some (.ld_C_H, 2), some (.ld_C_L, 2),
    some (.ld_C_atHL, 2), some (.ld_C_A, 2)] := by decide

theorem test_decode_50_to_5F : decodedRow 0x50 = [
    some (.ld_D_B, 2), some (.ld_D_C, 2), some (.ld_D_D, 2), some (.ld_D_E, 2), some (.ld_D_H, 2), some (.ld_D_L, 2), some (.ld_D_atHL, 2),
    some (.ld_D_A, 2), some (.ld_E_B, 2), some (.ld_E_C, 2), some (.ld_E_D, 2), some (.ld_E_E, 2), some (.ld_E_H, 2), some (.ld_E_L, 2),
    some (.ld_E_atHL, 2), some (.ld_E_A, 2)] := by decide

theorem test_decode_60_to_6F : decodedRow 0x60 = [
    some (.ld_H_B, 2), some (.ld_H_C, 2), some (.ld_H_D, 2), some (.ld_H_E, 2), some (.ld_H_H, 2), some (.ld_H_L, 2), some (.ld_H_atHL, 2),
    some (.ld_H_A, 2), some (.ld_L_B, 2), some (.ld_L_C, 2), some (.ld_L_D, 2), some (.ld_L_E, 2), some (.ld_L_H, 2), some (.ld_L_L, 2),
    some (.ld_L_atHL, 2), some (.ld_L_A, 2)] := by decide

theorem test_decode_70_to_7F : decodedRow 0x70 = [
    some (.ld_atHL_B, 2), some (.ld_atHL_C, 2), some (.ld_atHL_D, 2), some (.ld_atHL_E, 2), some (.ld_atHL_H, 2), some (.ld_atHL_L, 2),
    some (.halt, 2), some (.ld_atHL_A, 2), some (.ld_A_B, 2), some (.ld_A_C, 2), some (.ld_A_D, 2), some (.ld_A_E, 2), some (.ld_A_H, 2),
    some (.ld_A_L, 2), some (.ld_A_atHL, 2), some (.ld_A_A, 2)] := by decide

theorem test_decode_80_to_8F : decodedRow 0x80 = [
    some (.add_A_B, 2), some (.add_A_C, 2), some (.add_A_D, 2), some (.add_A_E, 2), some (.add_A_H, 2), some (.add_A_L, 2),
    some (.add_A_atHL, 2), some (.add_A_A, 2), some (.adc_A_B, 2), some (.adc_A_C, 2), some (.adc_A_D, 2), some (.adc_A_E, 2),
    some (.adc_A_H, 2), some (.adc_A_L, 2), some (.adc_A_atHL, 2), some (.adc_A_A, 2)] := by decide

theorem test_decode_90_to_9F : decodedRow 0x90 = [
    some (.sub_B, 2), some (.sub_C, 2), some (.sub_D, 2), some (.sub_E, 2), some (.sub_H, 2), some (.sub_L, 2), some (.sub_atHL, 2),
    some (.sub_A, 2), some (.sbc_A_B, 2), some (.sbc_A_C, 2), some (.sbc_A_D, 2), some (.sbc_A_E, 2), some (.sbc_A_H, 2),
    some (.sbc_A_L, 2), some (.sbc_A_atHL, 2), some (.sbc_A_A, 2)] := by decide

theorem test_decode_A0_to_AF : decodedRow 0xA0 = [
    some (.and_B, 2), some (.and_C, 2), some (.and_D, 2), some (.and_E, 2), some (.and_H, 2), some (.and_L, 2), some (.and_atHL, 2),
    some (.and_A, 2), some (.xor_B, 2), some (.xor_C, 2), some (.xor_D, 2), some (.xor_E, 2), some (.xor_H, 2), some (.xor_L, 2),
    some (.xor_atHL, 2), some (.xor_A, 2)] := by decide

theorem test_decode_B0_to_BF : decodedRow 0xB0 = [
    some (.or_B, 2), some (.or_C, 2), some (.or_D, 2), some (.or_E, 2), some (.or_H, 2), some (.or_L, 2), some (.or_atHL, 2),
    some (.or_A, 2), some (.cp_B, 2), some (.cp_C, 2), some (.cp_D, 2), some (.cp_E, 2), some (.cp_H, 2), some (.cp_L, 2),
    some (.cp_atHL, 2), some (.cp_A, 2)] := by decide

theorem test_decode_C0_to_CF : decodedRow 0xC0 = [
    some (.ret_NZ, 2), some (.pop_BC, 2), some (.jp_NZ_a16 0x1234, 0), some (.jp_a16 0x1234, 0), some (.call_NZ_a16 0x1234, 0),
    some (.push_BC, 2), some (.add_A_d8 0x34, 1), some (.rst_00, 2), some (.ret_Z, 2), some (.ret, 2), some (.jp_Z_a16 0x1234, 0),
    some (.swap_H, 1), some (.call_Z_a16 0x1234, 0), some (.call_a16 0x1234, 0), some (.adc_A_d8 0x34, 1), some (.rst_08, 2)] := by decide

theorem test_decode_D0_to_DF : decodedRow 0xD0 = [
    some (.ret_NC, 2), some (.pop_DE, 2), some (.jp_NC_a16 0x1234, 0), some (.unassigned 0xD3, 2), some (.call_NC_a16 0x1234, 0),
    some (.push_DE, 2), some (.sub_d8 0x34, 1), some (.rst_10, 2), some (.ret_C, 2), some (.reti, 2), some (.jp_C_a16 0x1234, 0),
    some (.unassigned 0xDB, 2), some (.call_C_a16 0x1234, 0), some (.unassigned 0xDD, 2), some (.sbc_A_d8 0x34, 1), some (.rst_18, 2)] := by decide

theorem test_decode_E0_to_EF : decodedRow 0xE0 = [
    some (.ldh_atA8_A 0x34, 1), some (.pop_HL, 2), some (.ld_atC_A, 2), some (.unassigned 0xE3, 2), some (.unassigned 0xE4, 2),
    some (.push_HL, 2), some (.and_d8 0x34, 1), some (.rst_20, 2), some (.add_SP_e8 0x34, 1), some (.jp_HL, 2),
    some (.ld_atA16_A 0x1234, 0), some (.unassigned 0xEB, 2), some (.unassigned 0xEC, 2), some (.unassigned 0xED, 2),
    some (.xor_d8 0x34, 1), some (.rst_28, 2)] := by decide

theorem test_decode_F0_to_FF : decodedRow 0xF0 = [
    some (.ldh_A_atA8 0x34, 1), some (.pop_AF, 2), some (.ld_A_atC, 2), some (.di, 2), some (.unassigned 0xF4, 2), some (.push_AF, 2),
    some (.or_d8 0x34, 1), some (.rst_30, 2), some (.ld_HL_SPe8 0x34, 1), some (.ld_SP_HL, 2), some (.ld_A_atA16 0x1234, 0), some (.ei, 2),
    some (.unassigned 0xFC, 2), some (.unassigned 0xFD, 2), some (.cp_d8 0x34, 1), some (.rst_38, 2)] := by decide

theorem test_decode_CB_00_to_0F : decodedExtendedRow 0x00 = [
    some (.rlc_B, 0), some (.rlc_C, 0), some (.rlc_D, 0), some (.rlc_E, 0), some (.rlc_H, 0), some (.rlc_L, 0), some (.rlc_atHL, 0),
    some (.rlc_A, 0), some (.rrc_B, 0), some (.rrc_C, 0), some (.rrc_D, 0), some (.rrc_E, 0), some (.rrc_H, 0), some (.rrc_L, 0),
    some (.rrc_atHL, 0), some (.rrc_A, 0)] := by decide

theorem test_decode_CB_10_to_1F : decodedExtendedRow 0x10 = [
    some (.rl_B, 0), some (.rl_C, 0), some (.rl_D, 0), some (.rl_E, 0), some (.rl_H, 0), some (.rl_L, 0), some (.rl_atHL, 0),
    some (.rl_A, 0), some (.rr_B, 0), some (.rr_C, 0), some (.rr_D, 0), some (.rr_E, 0), some (.rr_H, 0), some (.rr_L, 0),
    some (.rr_atHL, 0), some (.rr_A, 0)] := by decide

theorem test_decode_CB_20_to_2F : decodedExtendedRow 0x20 = [
    some (.sla_B, 0), some (.sla_C, 0), some (.sla_D, 0), some (.sla_E, 0), some (.sla_H, 0), some (.sla_L, 0), some (.sla_atHL, 0),
    some (.sla_A, 0), some (.sra_B, 0), some (.sra_C, 0), some (.sra_D, 0), some (.sra_E, 0), some (.sra_H, 0), some (.sra_L, 0),
    some (.sra_atHL, 0), some (.sra_A, 0)] := by decide

theorem test_decode_CB_30_to_3F : decodedExtendedRow 0x30 = [
    some (.swap_B, 0), some (.swap_C, 0), some (.swap_D, 0), some (.swap_E, 0), some (.swap_H, 0), some (.swap_L, 0), some (.swap_atHL, 0),
    some (.swap_A, 0), some (.srl_B, 0), some (.srl_C, 0), some (.srl_D, 0), some (.srl_E, 0), some (.srl_H, 0), some (.srl_L, 0),
    some (.srl_atHL, 0), some (.srl_A, 0)] := by decide

theorem test_decode_CB_40_to_4F : decodedExtendedRow 0x40 = [
    some (.bit_0_B, 0), some (.bit_0_C, 0), some (.bit_0_D, 0), some (.bit_0_E, 0), some (.bit_0_H, 0), some (.bit_0_L, 0),
    some (.bit_0_atHL, 0), some (.bit_0_A, 0), some (.bit_1_B, 0), some (.bit_1_C, 0), some (.bit_1_D, 0), some (.bit_1_E, 0),
    some (.bit_1_H, 0), some (.bit_1_L, 0), some (.bit_1_atHL, 0), some (.bit_1_A, 0)] := by decide

theorem test_decode_CB_50_to_5F : decodedExtendedRow 0x50 = [
    some (.bit_2_B, 0), some (.bit_2_C, 0), some (.bit_2_D, 0), some (.bit_2_E, 0), some (.bit_2_H, 0), some (.bit_2_L, 0),
    some (.bit_2_atHL, 0), some (.bit_2_A, 0), some (.bit_3_B, 0), some (.bit_3_C, 0), some (.bit_3_D, 0), some (.bit_3_E, 0),
    some (.bit_3_H, 0), some (.bit_3_L, 0), some (.bit_3_atHL, 0), some (.bit_3_A, 0)] := by decide

theorem test_decode_CB_60_to_6F : decodedExtendedRow 0x60 = [
    some (.bit_4_B, 0), some (.bit_4_C, 0), some (.bit_4_D, 0), some (.bit_4_E, 0), some (.bit_4_H, 0), some (.bit_4_L, 0),
    some (.bit_4_atHL, 0), some (.bit_4_A, 0), some (.bit_5_B, 0), some (.bit_5_C, 0), some (.bit_5_D, 0), some (.bit_5_E, 0),
    some (.bit_5_H, 0), some (.bit_5_L, 0), some (.bit_5_atHL, 0), some (.bit_5_A, 0)] := by decide

theorem test_decode_CB_70_to_7F : decodedExtendedRow 0x70 = [
    some (.bit_6_B, 0), some (.bit_6_C, 0), some (.bit_6_D, 0), some (.bit_6_E, 0), some (.bit_6_H, 0), some (.bit_6_L, 0),
    some (.bit_6_atHL, 0), some (.bit_6_A, 0), some (.bit_7_B, 0), some (.bit_7_C, 0), some (.bit_7_D, 0), some (.bit_7_E, 0),
    some (.bit_7_H, 0), some (.bit_7_L, 0), some (.bit_7_atHL, 0), some (.bit_7_A, 0)] := by decide

theorem test_decode_CB_80_to_8F : decodedExtendedRow 0x80 = [
    some (.res_0_B, 0), some (.res_0_C, 0), some (.res_0_D, 0), some (.res_0_E, 0), some (.res_0_H, 0), some (.res_0_L, 0),
    some (.res_0_atHL, 0), some (.res_0_A, 0), some (.res_1_B, 0), some (.res_1_C, 0), some (.res_1_D, 0), some (.res_1_E, 0),
    some (.res_1_H, 0), some (.res_1_L, 0), some (.res_1_atHL, 0), some (.res_1_A, 0)] := by decide

theorem test_decode_CB_90_to_9F : decodedExtendedRow 0x90 = [
    some (.res_2_B, 0), some (.res_2_C, 0), some (.res_2_D, 0), some (.res_2_E, 0), some (.res_2_H, 0), some (.res_2_L, 0),
    some (.res_2_atHL, 0), some (.res_2_A, 0), some (.res_3_B, 0), some (.res_3_C, 0), some (.res_3_D, 0), some (.res_3_E, 0),
    some (.res_3_H, 0), some (.res_3_L, 0), some (.res_3_atHL, 0), some (.res_3_A, 0)] := by decide

theorem test_decode_CB_A0_to_AF : decodedExtendedRow 0xA0 = [
    some (.res_4_B, 0), some (.res_4_C, 0), some (.res_4_D, 0), some (.res_4_E, 0), some (.res_4_H, 0), some (.res_4_L, 0),
    some (.res_4_atHL, 0), some (.res_4_A, 0), some (.res_5_B, 0), some (.res_5_C, 0), some (.res_5_D, 0), some (.res_5_E, 0),
    some (.res_5_H, 0), some (.res_5_L, 0), some (.res_5_atHL, 0), some (.res_5_A, 0)] := by decide

theorem test_decode_CB_B0_to_BF : decodedExtendedRow 0xB0 = [
    some (.res_6_B, 0), some (.res_6_C, 0), some (.res_6_D, 0), some (.res_6_E, 0), some (.res_6_H, 0), some (.res_6_L, 0),
    some (.res_6_atHL, 0), some (.res_6_A, 0), some (.res_7_B, 0), some (.res_7_C, 0), some (.res_7_D, 0), some (.res_7_E, 0),
    some (.res_7_H, 0), some (.res_7_L, 0), some (.res_7_atHL, 0), some (.res_7_A, 0)] := by decide

theorem test_decode_CB_C0_to_CF : decodedExtendedRow 0xC0 = [
    some (.set_0_B, 0), some (.set_0_C, 0), some (.set_0_D, 0), some (.set_0_E, 0), some (.set_0_H, 0), some (.set_0_L, 0),
    some (.set_0_atHL, 0), some (.set_0_A, 0), some (.set_1_B, 0), some (.set_1_C, 0), some (.set_1_D, 0), some (.set_1_E, 0),
    some (.set_1_H, 0), some (.set_1_L, 0), some (.set_1_atHL, 0), some (.set_1_A, 0)] := by decide

theorem test_decode_CB_D0_to_DF : decodedExtendedRow 0xD0 = [
    some (.set_2_B, 0), some (.set_2_C, 0), some (.set_2_D, 0), some (.set_2_E, 0), some (.set_2_H, 0), some (.set_2_L, 0),
    some (.set_2_atHL, 0), some (.set_2_A, 0), some (.set_3_B, 0), some (.set_3_C, 0), some (.set_3_D, 0), some (.set_3_E, 0),
    some (.set_3_H, 0), some (.set_3_L, 0), some (.set_3_atHL, 0), some (.set_3_A, 0)] := by decide

theorem test_decode_CB_E0_to_EF : decodedExtendedRow 0xE0 = [
    some (.set_4_B, 0), some (.set_4_C, 0), some (.set_4_D, 0), some (.set_4_E, 0), some (.set_4_H, 0), some (.set_4_L, 0),
    some (.set_4_atHL, 0), some (.set_4_A, 0), some (.set_5_B, 0), some (.set_5_C, 0), some (.set_5_D, 0), some (.set_5_E, 0),
    some (.set_5_H, 0), some (.set_5_L, 0), some (.set_5_atHL, 0), some (.set_5_A, 0)] := by decide

theorem test_decode_CB_F0_to_FF : decodedExtendedRow 0xF0 = [
    some (.set_6_B, 0), some (.set_6_C, 0), some (.set_6_D, 0), some (.set_6_E, 0), some (.set_6_H, 0), some (.set_6_L, 0),
    some (.set_6_atHL, 0), some (.set_6_A, 0), some (.set_7_B, 0), some (.set_7_C, 0), some (.set_7_D, 0), some (.set_7_E, 0),
    some (.set_7_H, 0), some (.set_7_L, 0), some (.set_7_atHL, 0), some (.set_7_A, 0)] := by decide

theorem test_decode_needs_its_operand_bytes :
    decode [] = .error .noBytes ∧ decode [0x3E] = .error (.cutShort 0x3E) ∧ decode [0xC3, 0x50] = .error (.cutShort 0xC3) := by decide

theorem test_encode_puts_the_low_byte_first : encode (.call_a16 0x1234) = [0xCD, 0x34, 0x12] := by decide

theorem test_encode_of_an_extended_opcode : encode .res_7_atHL = [0xCB, 0xBE] := by decide

theorem test_table_word_with_the_prefix_in_its_high_byte : decodeTableWord 16 0xCBFE = some .set_7_atHL := by decide

theorem test_table_word_of_one_byte_has_zero_operands : decodeTableWord 8 0xC3 = some (.jp_a16 0x0000) := by decide

theorem test_placed_word_is_the_first_to_run :
    after (State.reset.withFetchWord 16 0xCB07) (fun t => (t.af.value, t.pc, t.cost)) = some (0x0200, 0x0102, 8) := by decide

/-! ## Single steps: the vectors X -/

theorem test_X2_LD_SP_d16 :
    after (boot [0x31, 0x00, 0xD0])
      (fun t => (t.sp.value, t.pc, t.cost)) = some (0xD000, 0x0103, 12) := by decide

theorem test_X5_LD_a16_SP :
    after { boot [0x08, 0xFF, 0xFF] with sp := ⟨0x12, 0x34⟩ }
      (fun t => (t.plat.read 0xFFFF, t.pc, t.cost)) = some (0x34, 0x0103, 20) := by decide

theorem test_X6_LD_SP_HL :
    after { boot [0xF9] with hl := ⟨0xD0, 0x00⟩ }
      (fun t => (t.sp.value, t.pc, t.cost)) = some (0xD000, 0x0101, 8) := by decide

theorem test_X8_LD_HL_SP_e8 :
    after { boot [0xF8, 0xFF] with af := ⟨0x01, 0xF0⟩, sp := ⟨0x00, 0x00⟩ }
      (fun t => (t.af.value, t.hl.value, t.pc, t.cost)) = some (0x0100, 0xFFFF, 0x0102, 12) := by decide

theorem test_X11_LD_HL_SP_e8 :
    after { boot [0xF8, 0x80] with sp := ⟨0xD0, 0x80⟩ }
      (fun t => (t.af.value, t.hl.value, t.pc, t.cost)) = some (0x0110, 0xD000, 0x0102, 12) := by decide

theorem test_X12_PUSH_BC :
    after { boot [0xC5] with bc := ⟨0x12, 0x34⟩ }
      (fun t => (t.sp.value, t.plat.read 0xFFFD, t.plat.read 0xFFFC, t.pc, t.cost)) = some (0xFFFC, 0x12, 0x34, 0x0101, 16) := by decide

theorem test_X14_PUSH_HL :
    after { boot [0xE5] with hl := ⟨0xBE, 0xEF⟩, sp := ⟨0x00, 0x01⟩ }
      (fun t => (t.sp.value, t.plat.read 0xFFFF, t.pc, t.cost)) = some (0xFFFF, 0xEF, 0x0101, 16) := by decide

theorem test_X15_POP_DE :
    after { boot [0xD1] with sp := ⟨0xFF, 0xFC⟩, plat := [(0xFFFC, 0x34), (0xFFFD, 0x12)] }
      (fun t => (t.de.value, t.sp.value, t.pc, t.cost)) = some (0x1234, 0xFFFE, 0x0101, 12) := by decide

theorem test_X17_POP_AF :
    after { boot [0xF1] with sp := ⟨0xFF, 0xFC⟩, plat := [(0xFFFC, 0x5F), (0xFFFD, 0x9A)] }
      (fun t => (t.af.value, t.sp.value, t.pc, t.cost)) = some (0x9A50, 0xFFFE, 0x0101, 12) := by decide

theorem test_X20_LD_B_C :
    after { boot [0x41] with bc := ⟨0x00, 0x5A⟩ }
      (fun t => (t.bc.value, t.pc, t.cost)) = some (0x5A5A, 0x0101, 4) := by decide

theorem test_X24_LD_H_HL :
    after { boot [0x66] with hl := ⟨0xC0, 0x00⟩, plat := [(0xC000, 0xD1)] }
      (fun t => (t.hl.value, t.pc, t.cost)) = some (0xD100, 0x0101, 8) := by decide

theorem test_X25_LD_A_HL :
    after { boot [0x7E] with hl := ⟨0x01, 0x47⟩, bankingType := .MBC1, rom := (boot [0x7E]).rom.write 0x147 0x02 }
      (fun t => (t.af.value, t.pc, t.cost)) = some (0x02B0, 0x0101, 8) := by decide

theorem test_X28_LD_HL_A :
    after { boot [0x77] with af := ⟨0x05, 0xB0⟩, hl := ⟨0x20, 0x00⟩, bankingType := .MBC1, rom := (boot [0x77]).rom.write 0x147 0x02 }
      (fun t => (t.currentRomBank, t.pc, t.cost)) = some (0x05, 0x0101, 8) := by decide

theorem test_X30_LD_HL_A :
    after { boot [0x77] with af := ⟨0x05, 0xB0⟩, hl := ⟨0xA0, 0x00⟩, bankingType := .MBC1, rom := (boot [0x77]).rom.write 0x147 0x02 }
      (fun t => (t.ramBanks, t.pc, t.cost)) = some ([], 0x0101, 8) := by decide

theorem test_X31_LD_A_d8 :
    after (boot [0x3E, 0x05])
      (fun t => (t.af.value, t.pc, t.cost)) = some (0x05B0, 0x0102, 8) := by decide

theorem test_X33_LD_HL_d8 :
    after { boot [0x36, 0xAB] with hl := ⟨0xC0, 0x10⟩ }
      (fun t => (t.plat.read 0xC010, t.pc, t.cost)) = some (0xAB, 0x0102, 12) := by decide

theorem test_X34_LD_A_BC :
    after { boot [0x0A] with bc := ⟨0xC0, 0x00⟩, plat := [(0xC000, 0x11)] }
      (fun t => (t.af.value, t.pc, t.cost)) = some (0x11B0, 0x0101, 8) := by decide

theorem test_X35_LD_A_DE :
    after { boot [0x1A] with de := ⟨0xFF, 0xFF⟩, plat := [(0xFFFF, 0x1F)] }
      (fun t => (t.af.value, t.pc, t.cost)) = some (0x1FB0, 0x0101, 8) := by decide

theorem test_X36_LD_BC_A :
    after { boot [0x02] with af := ⟨0x7F, 0xB0⟩, bc := ⟨0xC0, 0x00⟩ }
      (fun t => (t.plat.read 0xC000, t.pc, t.cost)) = some (0x7F, 0x0101, 8) := by decide

theorem test_X37_LD_DE_A :
    after { boot [0x12] with af := ⟨0x80, 0xB0⟩, de := ⟨0xC0, 0x01⟩ }
      (fun t => (t.plat.read 0xC001, t.pc, t.cost)) = some (0x80, 0x0101, 8) := by decide

theorem test_X39_LD_HLinc_A :
    after { boot [0x22] with hl := ⟨0xFF, 0xFF⟩ }
      (fun t => (t.hl.value, t.plat.read 0xFFFF, t.pc, t.cost)) = some (0x0000, 0x01, 0x0101, 8) := by decide

theorem test_X40_LD_A_HLinc :
    after { boot [0x2A] with hl := ⟨0xC0, 0xFF⟩, plat := [(0xC0FF, 0x33)] }
      (fun t => (t.af.value, t.hl.value, t.pc, t.cost)) = some (0x33B0, 0xC100, 0x0101, 8) := by decide

theorem test_X41_LD_HLdec_A :
    after { boot [0x32] with af := ⟨0xEE, 0xB0⟩, hl := ⟨0xC0, 0x00⟩ }
      (fun t => (t.hl.value, t.plat.read 0xC000, t.pc, t.cost)) = some (0xBFFF, 0xEE, 0x0101, 8) := by decide

theorem test_X42_LD_A_HLdec :
    after { boot [0x3A] with hl := ⟨0x00, 0x00⟩ }
      (fun t => (t.af.value, t.hl.value, t.pc, t.cost)) = some (0x00B0, 0xFFFF, 0x0101, 8) := by decide

theorem test_X43_LDH_a8_A :
    after { boot [0xE0, 0x40] with af := ⟨0x91, 0xB0⟩ }
      (fun t => (t.plat.read 0xFF40, t.pc, t.cost)) = some (0x91, 0x0102, 12) := by decide

theorem test_X45_LDH_A_a8 :
    after { boot [0xF0, 0x80] with plat := [(0xFF80, 0x07)] }
      (fun t => (t.af.value, t.pc, t.cost)) = some (0x07B0, 0x0102, 12) := by decide

theorem test_X46_LD_C_A :
    after { boot [0xE2] with af := ⟨0x55, 0xB0⟩, bc := ⟨0x00, 0x80⟩ }
      (fun t => (t.plat.read 0xFF80, t.pc, t.cost)) = some (0x55, 0x0101, 8) := by decide

theorem test_X47_LD_A_C :
    after { boot [0xF2] with bc := ⟨0x00, 0x00⟩, plat := [(0xFF00, 0xCF)] }
      (fun t => (t.af.value, t.pc, t.cost)) = some (0xCFB0, 0x0101, 8) := by decide

theorem test_X48_LD_a16_A :
    after { boot [0xEA, 0x00, 0x00] with af := ⟨0x0A, 0xB0⟩, bankingType := .MBC1, rom := (boot [0xEA, 0x00, 0x00]).rom.write 0x147 0x02 }
      (fun t => (t.ramWriteEnabled, t.pc, t.cost)) = some (true, 0x0103, 16) := by decide

theorem test_X50_LD_A_a16 :
    after { boot [0xFA, 0x47, 0x01] with bankingType := .MBC2, rom := (boot [0xFA, 0x47, 0x01]).rom.write 0x147 0x05 }
      (fun t => (t.af.value, t.pc, t.cost)) = some (0x05B0, 0x0103, 16) := by decide

theorem test_X52_INC_B :
    after { boot [0x04] with af := ⟨0x01, 0x10⟩, bc := ⟨0x0F, 0x13⟩ }
      (fun t => (t.af.value, t.bc.value, t.pc, t.cost)) = some (0x0130, 0x1013, 0x0101, 4) := by decide

theorem test_X54_INC_A :
    after { boot [0x3C] with af := ⟨0xFF, 0x10⟩ }
      (fun t => (t.af.value, t.pc, t.cost)) = some (0x00B0, 0x0101, 4) := by decide

theorem test_X57_INC_HL :
    after { boot [0x34] with af := ⟨0x01, 0x00⟩, hl := ⟨0xC0, 0x00⟩, plat := [(0xC000, 0xFF)] }
      (fun t => (t.af.value, t.plat.read 0xC000, t.pc, t.cost)) = some (0x01A0, 0x00, 0x0101, 12) := by decide

theorem test_X59_DEC_A :
    after { boot [0x3D] with af := ⟨0x10, 0x00⟩ }
      (fun t => (t.af.value, t.pc, t.cost)) = some (0x0F60, 0x0101, 4) := by decide

theorem test_X61_DEC_B :
    after { boot [0x05] with af := ⟨0x01, 0x10⟩ }
      (fun t => (t.af.value, t.bc.value, t.pc, t.cost)) = some (0x0170, 0xFF13, 0x0101, 4) := by decide

theorem test_X63_DEC_HL :
    after { boot [0x35] with af := ⟨0x01, 0x10⟩, hl := ⟨0xC0, 0x00⟩, plat := [(0xC000, 0x01)] }
      (fun t => (t.af.value, t.plat.read 0xC000, t.pc, t.cost)) = some (0x01D0, 0x00, 0x0101, 12) := by decide

theorem test_X66_INC_HL :
    after { boot [0x23] with af := ⟨0x01, 0x00⟩, hl := ⟨0xFF, 0xFF⟩ }
      (fun t => (t.af.value, t.hl.value, t.pc, t.cost)) = some (0x0100, 0x0000, 0x0101, 8) := by decide

theorem test_X68_DEC_HL :
    after { boot [0x2B] with af := ⟨0x01, 0xF0⟩, hl := ⟨0x00, 0x00⟩ }
      (fun t => (t.af.value, t.hl.value, t.pc, t.cost)) = some (0x01F0, 0xFFFF, 0x0101, 8) := by decide

theorem test_X73_JR_e8 :
    after (bootAt 0x0150 [0x18, 0x80])
      (fun t => (t.pc, t.cost)) = some (0x00D2, 12) := by decide

theorem test_X75_JR_e8 :
    after (bootAt 0x0000 [0x18, 0xFD])
      (fun t => (t.pc, t.cost)) = some (0xFFFF, 12) := by decide

theorem test_X76_JR_NZ_e8 :
    after { bootAt 0x0150 [0x20, 0xFB] with af := ⟨0x01, 0x00⟩ }
      (fun t => (t.af.value, t.pc, t.cost)) = some (0x0100, 0x014D, 12) := by decide

theorem test_X77_JR_NZ_e8 :
    after { bootAt 0x0150 [0x20, 0xFB] with af := ⟨0x01, 0x80⟩ }
      (fun t => (t.af.value, t.pc, t.cost)) = some (0x0180, 0x0152, 8) := by decide

theorem test_X82_JR_C_e8 :
    after { bootAt 0x0150 [0x38, 0xFB] with af := ⟨0x01, 0x10⟩ }
      (fun t => (t.af.value, t.pc, t.cost)) = some (0x0110, 0x014D, 12) := by decide

theorem test_X83_JR_C_e8 :
    after { bootAt 0x0150 [0x38, 0xFB] with af := ⟨0x01, 0x00⟩ }
      (fun t => (t.af.value, t.pc, t.cost)) = some (0x0100, 0x0152, 8) := by decide

theorem test_X84_JP_a16 :
    after (boot [0xC3, 0x50, 0x01])
      (fun t => (t.pc, t.cost)) = some (0x0150, 16) := by decide

theorem test_X85_JP_C_a16 :
    after { bootAt 0x0200 [0xDA, 0x00, 0x40] with af := ⟨0x01, 0x10⟩ }
      (fun t => (t.af.value, t.pc, t.cost)) = some (0x0110, 0x4000, 16) := by decide

theorem test_X86_JP_C_a16 :
    after { bootAt 0x0200 [0xDA, 0x00, 0x40] with af := ⟨0x01, 0x00⟩ }
      (fun t => (t.af.value, t.pc, t.cost)) = some (0x0100, 0x0203, 12) := by decide

theorem test_X89_JP_HL :
    after { boot [0xE9] with hl := ⟨0xC0, 0x00⟩ }
      (fun t => (t.pc, t.cost)) = some (0xC000, 4) := by decide

theorem test_X90_CALL_a16 :
    after (bootAt 0x0150 [0xCD, 0x00, 0x02])
      (fun t => (t.sp.value, t.plat.read 0xFFFD, t.plat.read 0xFFFC, t.pc, t.cost)) = some (0xFFFC, 0x01, 0x53, 0x0200, 24) := by decide

theorem test_X91_CALL_a16 :
    after { bootAt 0x0150 [0xCD, 0x00, 0x02] with sp := ⟨0x80, 0x00⟩ }
      (fun t => (t.sp.value, t.pc, t.cost)) = some (0x7FFE, 0x0200, 24) := by decide

theorem test_X92_CALL_NZ_a16 :
    after { bootAt 0x0150 [0xC4, 0x00, 0x02] with af := ⟨0x01, 0x80⟩ }
      (fun t => (t.af.value, t.pc, t.cost)) = some (0x0180, 0x0153, 12) := by decide

theorem test_X94_CALL_C_a16 :
    after { bootAt 0x0150 [0xDC, 0x00, 0x02] with af := ⟨0x01, 0x10⟩ }
      (fun t => (t.af.value, t.sp.value, t.plat.read 0xFFFD, t.plat.read 0xFFFC, t.pc, t.cost)) = some (0x0110, 0xFFFC, 0x01, 0x53, 0x0200, 24) := by decide

theorem test_X95_RET :
    after { bootAt 0x0200 [0xC9] with sp := ⟨0xFF, 0xFC⟩, plat := [(0xFFFC, 0x53), (0xFFFD, 0x01)] }
      (fun t => (t.sp.value, t.pc, t.cost)) = some (0xFFFE, 0x0153, 16) := by decide

theorem test_X96_RET_C :
    after { boot [0xD8] with af := ⟨0x01, 0x00⟩ }
      (fun t => (t.af.value, t.pc, t.cost)) = some (0x0100, 0x0101, 8) := by decide

theorem test_X97_RET_C :
    after { boot [0xD8] with af := ⟨0x01, 0x10⟩, sp := ⟨0xFF, 0xFC⟩, plat := [(0xFFFC, 0x53), (0xFFFD, 0x01)] }
      (fun t => (t.af.value, t.sp.value, t.pc, t.cost)) = some (0x0110, 0xFFFE, 0x0153, 20) := by decide

theorem test_X100_RETI :
    after { boot [0xD9] with sp := ⟨0xFF, 0xFC⟩, plat := [(0xFFFC, 0x53), (0xFFFD, 0x01)] }
      (fun t => (t.sp.value, t.ime, t.pc, t.cost)) = some (0xFFFE, true, 0x0153, 16) := by decide

theorem test_X102_RST_0x28 :
    after (bootAt 0x0150 [0xEF])
      (fun t => (t.sp.value, t.plat.read 0xFFFD, t.plat.read 0xFFFC, t.pc, t.cost)) = some (0xFFFC, 0x01, 0x51, 0x0028, 16) := by decide

theorem test_X106_ADD_A_d8 :
    after { boot [0xC6, 0x0B] with af := ⟨0x05, 0xB0⟩ }
      (fun t => (t.af.value, t.pc, t.cost)) = some (0x1020, 0x0102, 8) := by decide

theorem test_X107_ADD_A_d8 :
    after { boot [0xC6, 0x01] with af := ⟨0xFF, 0x00⟩ }
      (fun t => (t.af.value, t.pc, t.cost)) = some (0x00B0, 0x0102, 8) := by decide

theorem test_X110_ADD_A_HL :
    after { boot [0x86] with af := ⟨0x3A, 0x00⟩, hl := ⟨0xC0, 0x00⟩, plat := [(0xC000, 0xC6)] }
      (fun t => (t.af.value, t.pc, t.cost)) = some (0x00B0, 0x0101, 8) := by decide

theorem test_X113_ADC_A_d8 :
    after { boot [0xCE, 0x00] with af := ⟨0xFF, 0x10⟩ }
      (fun t => (t.af.value, t.pc, t.cost)) = some (0x00B0, 0x0102, 8) := by decide

theorem test_X115_ADC_A_d8 :
    after { boot [0xCE, 0xFF] with af := ⟨0xFF, 0x10⟩ }
      (fun t => (t.af.value, t.pc, t.cost)) = some (0xFF30, 0x0102, 8) := by decide

theorem test_X118_SUB_d8 :
    after { boot [0xD6, 0x01] with af := ⟨0x00, 0x00⟩ }
      (fun t => (t.af.value, t.pc, t.cost)) = some (0xFF70, 0x0102, 8) := by decide

theorem test_X121_SUB_HL :
    after { boot [0x96] with af := ⟨0x3E, 0x00⟩, hl := ⟨0xC0, 0x00⟩, plat := [(0xC000, 0x40)] }
      (fun t => (t.af.value, t.pc, t.cost)) = some (0xFE50, 0x0101, 8) := by decide

theorem test_X124_SBC_A_d8 :
    after { boot [0xDE, 0x0F] with af := ⟨0x10, 0x10⟩ }
      (fun t => (t.af.value, t.pc, t.cost)) = some (0x00E0, 0x0102, 8) := by decide

theorem test_X127_SBC_A_d8 :
    after { boot [0xDE, 0xFF] with af := ⟨0x00, 0x10⟩ }
      (fun t => (t.af.value, t.pc, t.cost)) = some (0x00F0, 0x0102, 8) := by decide

theorem test_X128_AND_d8 :
    after { boot [0xE6, 0x0F] with af := ⟨0x5A, 0xD0⟩ }
      (fun t => (t.af.value, t.pc, t.cost)) = some (0x0A20, 0x0102, 8) := by decide

theorem test_X131_XOR_A :
    after { boot [0xAF] with af := ⟨0x5A, 0xF0⟩ }
      (fun t => (t.af.value, t.pc, t.cost)) = some (0x0080, 0x0101, 4) := by decide

theorem test_X134_OR_d8 :
    after { boot [0xF6, 0x0F] with af := ⟨0x50, 0xF0⟩ }
      (fun t => (t.af.value, t.pc, t.cost)) = some (0x5F00, 0x0102, 8) := by decide

theorem test_X136_CP_d8 :
    after { boot [0xFE, 0x40] with af := ⟨0x3C, 0x00⟩ }
      (fun t => (t.af.value, t.pc, t.cost)) = some (0x3C50, 0x0102, 8) := by decide

theorem test_X141_ADD_HL_BC :
    after { boot [0x09] with af := ⟨0x01, 0x80⟩, bc := ⟨0x00, 0x01⟩, hl := ⟨0x0F, 0xFF⟩ }
      (fun t => (t.af.value, t.hl.value, t.pc, t.cost)) = some (0x01A0, 0x1000, 0x0101, 8) := by decide

theorem test_X142_ADD_HL_HL :
    after { boot [0x29] with af := ⟨0x01, 0x00⟩, hl := ⟨0x80, 0x00⟩ }
      (fun t => (t.af.value, t.hl.value, t.pc, t.cost)) = some (0x0110, 0x0000, 0x0101, 8) := by decide

theorem test_X146_ADD_SP_e8 :
    after { boot [0xE8, 0xFE] with af := ⟨0x01, 0xC0⟩ }
      (fun t => (t.af.value, t.sp.value, t.pc, t.cost)) = some (0x0130, 0xFFFC, 0x0102, 16) := by decide

theorem test_X149_ADD_SP_e8 :
    after { boot [0xE8, 0xFF] with af := ⟨0x01, 0x00⟩, sp := ⟨0xD0, 0x00⟩ }
      (fun t => (t.af.value, t.sp.value, t.pc, t.cost)) = some (0x0100, 0xCFFF, 0x0102, 16) := by decide

theorem test_X151_DAA :
    after { boot [0x27] with af := ⟨0x9A, 0x00⟩ }
      (fun t => (t.af.value, t.pc, t.cost)) = some (0x0090, 0x0101, 4) := by decide

theorem test_X157_DAA :
    after { boot [0x27] with af := ⟨0x0F, 0x60⟩ }
      (fun t => (t.af.value, t.pc, t.cost)) = some (0x0940, 0x0101, 4) := by decide

theorem test_X163_RLCA :
    after { boot [0x07] with af := ⟨0x00, 0x70⟩ }
      (fun t => (t.af.value, t.pc, t.cost)) = some (0x0080, 0x0101, 4) := by decide

theorem test_X165_RLA :
    after { boot [0x17] with af := ⟨0x95, 0x10⟩ }
      (fun t => (t.af.value, t.pc, t.cost)) = some (0x2B10, 0x0101, 4) := by decide

theorem test_X168_RRCA :
    after { boot [0x0F] with af := ⟨0x3B, 0x00⟩ }
      (fun t => (t.af.value, t.pc, t.cost)) = some (0x9D10, 0x0101, 4) := by decide

theorem test_X171_RRA :
    after { boot [0x1F] with af := ⟨0x81, 0x00⟩ }
      (fun t => (t.af.value, t.pc, t.cost)) = some (0x4010, 0x0101, 4) := by decide

theorem test_X173_RRA :
    after { boot [0x1F] with af := ⟨0x00, 0x10⟩ }
      (fun t => (t.af.value, t.pc, t.cost)) = some (0x8000, 0x0101, 4) := by decide

theorem test_X175_CPL :
    after { boot [0x2F] with af := ⟨0xFF, 0x90⟩ }
      (fun t => (t.af.value, t.pc, t.cost)) = some (0x00F0, 0x0101, 4) := by decide

theorem test_X176_SCF :
    after { boot [0x37] with af := ⟨0x01, 0xE0⟩ }
      (fun t => (t.af.value, t.pc, t.cost)) = some (0x0190, 0x0101, 4) := by decide

theorem test_X178_CCF :
    after { boot [0x3F] with af := ⟨0x01, 0xF0⟩ }
      (fun t => (t.af.value, t.pc, t.cost)) = some (0x0180, 0x0101, 4) := by decide

theorem test_X180_NOP :
    after (boot [0x00])
      (fun t => (t.af.value, t.pc, t.cost)) = some (0x01B0, 0x0101, 4) := by decide

theorem test_X183_DI :
    after { boot [0xF3] with ime := true }
      (fun t => (t.ime, t.pc, t.cost)) = some (false, 0x0101, 4) := by decide

theorem test_X185_EI :
    after (boot [0xFB])
      (fun t => (t.ime, t.pc, t.cost)) = some (true, 0x0101, 4) := by decide

theorem test_X187_PREFIX_CB_RLC_B :
    after { boot [0xCB, 0x00] with af := ⟨0x01, 0x00⟩, bc := ⟨0x85, 0x13⟩ }
      (fun t => (t.af.value, t.bc.value, t.pc, t.cost)) = some (0x0110, 0x0B13, 0x0102, 8) := by decide

theorem test_X188_unassigned :
    abortOf (bootAt 0x0150 [0x10]) = some (.undefinedOpcode 0x10 0x0150) := by decide

theorem test_X199_unassigned :
    abortOf (bootAt 0x0150 [0xFD]) = some (.undefinedOpcode 0xFD 0x0150) := by decide

theorem test_X205_RLC_HL :
    after { boot [0xCB, 0x06] with af := ⟨0x01, 0x00⟩, hl := ⟨0xC0, 0x00⟩, cbMode := .silicon, plat := [(0xC000, 0x80)] }
      (fun t => (t.af.value, t.plat.read 0xC000, t.pc, t.cost)) = some (0x0110, 0x01, 0x0102, 16) := by decide

theorem test_X210_RR_HL :
    after { boot [0xCB, 0x1E] with af := ⟨0x01, 0x10⟩, hl := ⟨0xC0, 0x00⟩, plat := [(0xC000, 0x8A)] }
      (fun t => (t.af.value, t.pc, t.cost)) = some (0x0110, 0x0102, 16) := by decide

theorem test_X216_SWAP_B :
    after { boot [0xCB, 0x30] with af := ⟨0x01, 0x10⟩ }
      (fun t => (t.af.value, t.pc, t.cost)) = some (0x0110, 0x0102, 8) := by decide

theorem test_X221_BIT_3_HL :
    after { boot [0xCB, 0x5E] with af := ⟨0x01, 0xC0⟩, hl := ⟨0xC0, 0x00⟩, plat := [(0xC000, 0x08)] }
      (fun t => (t.af.value, t.pc, t.cost)) = some (0x01C0, 0x0102, 16) := by decide

theorem test_X223_RES_7_HL :
    after { boot [0xCB, 0xBE] with af := ⟨0x01, 0x00⟩, hl := ⟨0xC0, 0x00⟩, plat := [(0xC000, 0xFF)] }
      (fun t => (t.af.value, t.pc, t.cost)) = some (0x0100, 0x0102, 16) := by decide

theorem test_X224_SET_7_HL :
    after { boot [0xCB, 0xFE] with af := ⟨0x01, 0x00⟩, hl := ⟨0xC0, 0x00⟩ }
      (fun t => (t.af.value, t.pc, t.cost)) = some (0x0100, 0x0102, 16) := by decide

theorem test_X226_RRC_C :
    after { boot [0xCB, 0x09] with af := ⟨0x01, 0x00⟩, bc := ⟨0x00, 0x01⟩, cbMode := .silicon }
      (fun t => (t.af.value, t.bc.value, t.pc, t.cost)) = some (0x0110, 0x0080, 0x0102, 8) := by decide

theorem test_X227_RL_L :
    after { boot [0xCB, 0x15] with af := ⟨0x01, 0x00⟩, hl := ⟨0x01, 0x80⟩, cbMode := .silicon }
      (fun t => (t.af.value, t.hl.value, t.pc, t.cost)) = some (0x0190, 0x0100, 0x0102, 8) := by decide

theorem test_X229_RR_A :
    after { boot [0xCB, 0x1F] with af := ⟨0x01, 0x00⟩, cbMode := .silicon }
      (fun t => (t.af.value, t.pc, t.cost)) = some (0x0090, 0x0102, 8) := by decide

theorem test_X230_RR_HL :
    after { boot [0xCB, 0x1E] with af := ⟨0x01, 0x10⟩, hl := ⟨0xC0, 0x00⟩, cbMode := .silicon, plat := [(0xC000, 0x8A)] }
      (fun t => (t.af.value, t.plat.read 0xC000, t.pc, t.cost)) = some (0x0100, 0xC5, 0x0102, 16) := by decide

theorem test_X231_SLA_D :
    after { boot [0xCB, 0x22] with af := ⟨0x01, 0x00⟩, de := ⟨0x80, 0xD8⟩, cbMode := .silicon }
      (fun t => (t.af.value, t.de.value, t.pc, t.cost)) = some (0x0190, 0x00D8, 0x0102, 8) := by decide

theorem test_X233_SRA_E :
    after { boot [0xCB, 0x2B] with af := ⟨0x01, 0x00⟩, de := ⟨0x00, 0x81⟩, cbMode := .silicon }
      (fun t => (t.af.value, t.de.value, t.pc, t.cost)) = some (0x0110, 0x00C0, 0x0102, 8) := by decide

theorem test_X235_SWAP_A :
    after { boot [0xCB, 0x37] with af := ⟨0xF1, 0xF0⟩, cbMode := .silicon }
      (fun t => (t.af.value, t.pc, t.cost)) = some (0x1F00, 0x0102, 8) := by decide

theorem test_X237_SRL_H :
    after { boot [0xCB, 0x3C] with af := ⟨0x01, 0x00⟩, cbMode := .silicon }
      (fun t => (t.af.value, t.hl.value, t.pc, t.cost)) = some (0x0190, 0x004D, 0x0102, 8) := by decide

theorem test_X240_BIT_0_A :
    after { boot [0xCB, 0x47] with af := ⟨0x80, 0x10⟩, cbMode := .silicon }
      (fun t => (t.af.value, t.pc, t.cost)) = some (0x80B0, 0x0102, 8) := by decide

theorem test_X241_BIT_3_HL :
    after { boot [0xCB, 0x5E] with af := ⟨0x01, 0xC0⟩, hl := ⟨0xC0, 0x00⟩, cbMode := .silicon, plat := [(0xC000, 0x08)] }
      (fun t => (t.af.value, t.pc, t.cost)) = some (0x0120, 0x0102, 16) := by decide

theorem test_X242_RES_0_B :
    after { boot [0xCB, 0x80] with af := ⟨0x01, 0xF0⟩, bc := ⟨0xFF, 0x13⟩, cbMode := .silicon }
      (fun t => (t.af.value, t.bc.value, t.pc, t.cost)) = some (0x01F0, 0xFE13, 0x0102, 8) := by decide

theorem test_X243_RES_7_HL :
    after { boot [0xCB, 0xBE] with af := ⟨0x01, 0x00⟩, hl := ⟨0xC0, 0x00⟩, cbMode := .silicon, plat := [(0xC000, 0xFF)] }
      (fun t => (t.af.value, t.plat.read 0xC000, t.pc, t.cost)) = some (0x0100, 0x7F, 0x0102, 16) := by decide

theorem test_X244_SET_7_HL :
    after { boot [0xCB, 0xFE] with af := ⟨0x01, 0x00⟩, hl := ⟨0xC0, 0x00⟩, cbMode := .silicon }
      (fun t => (t.af.value, t.plat.read 0xC000, t.pc, t.cost)) = some (0x0100, 0x80, 0x0102, 16) := by decide

theorem test_X245_SET_3_E :
    after { boot [0xCB, 0xDB] with af := ⟨0x01, 0x00⟩, de := ⟨0x00, 0x08⟩, cbMode := .silicon }
      (fun t => (t.af.value, t.pc, t.cost)) = some (0x0100, 0x0102, 8) := by decide

/-! ## The bank controller and the bus: the sequences B, M and S -/

/-- The four bank registers. -/
def banks (s : State) : BitVec 8 × BitVec 2 × Bool × Bool :=
  (s.currentRomBank, s.currentRamBank, s.romBankingMode, s.ramWriteEnabled)

/-- The bank registers after each control write of a sequence. -/
def controlWrites (s : State) : List (Word × Byte) → List (BitVec 8 × BitVec 2 × Bool × Bool)
  | [] => []
  | (a, v) :: rest => banks (manageBanking s a v) :: controlWrites (manageBanking s a v) rest

theorem test_B1_bank_registers :
    controlWrites { State.reset with bankingType := .MBC1 }
        [(0x0000, 0x0A), (0x1FFF, 0x05), (0x0000, 0x1A), (0x0008, 0xF0), (0x0000, 0x0A), (0x0000, 0x00)] =
      [(0x01, 0, true, true), (0x01, 0, true, true), (0x01, 0, true, true), (0x01, 0, true, false), (0x01, 0, true, true), (0x01, 0, true, false)] := by decide

theorem test_B2_bank_registers :
    controlWrites { State.reset with bankingType := .MBC2 }
        [(0x0008, 0x0A), (0x0000, 0x0A), (0x000F, 0x00), (0x0010, 0x00), (0x1FF7, 0x3A), (0x1FF8, 0x00)] =
      [(0x01, 0, true, false), (0x01, 0, true, true), (0x01, 0, true, true), (0x01, 0, true, false), (0x01, 0, true, true), (0x01, 0, true, true)] := by decide

theorem test_B3_bank_registers :
    controlWrites { State.reset with bankingType := .MBC1 }
        [(0x2000, 0x13), (0x3FFF, 0x20), (0x2000, 0x00), (0x2000, 0xFF), (0x2000, 0xE0)] =
      [(0x13, 0, true, false), (0x01, 0, true, false), (0x01, 0, true, false), (0x1F, 0, true, false), (0x01, 0, true, false)] := by decide

theorem test_B4_bank_registers :
    controlWrites { State.reset with bankingType := .MBC2 }
        [(0x2000, 0x13), (0x2000, 0x10), (0x2100, 0xFF), (0x4000, 0x60), (0x6000, 0x01)] =
      [(0x03, 0, true, false), (0x01, 0, true, false), (0x0F, 0, true, false), (0x0F, 0, true, false), (0x0F, 0, true, false)] := by decide

theorem test_B5_bank_registers :
    controlWrites { State.reset with bankingType := .MBC1 }
        [(0x2000, 0x05), (0x4000, 0x40), (0x4000, 0x03), (0x4000, 0x7F), (0x2000, 0x00), (0x2000, 0x01), (0x4000, 0x00), (0x2000, 0x00), (0x4000, 0x00)] =
      [(0x05, 0, true, false), (0x45, 0, true, false), (0x05, 0, true, false), (0x65, 0, true, false), (0x60, 0, true, false), (0x61, 0, true, false), (0x01, 0, true, false), (0x01, 0, true, false), (0x01, 0, true, false)] := by decide

theorem test_B6_bank_registers :
    controlWrites { State.reset with bankingType := .MBC1 }
        [(0x6000, 0x01), (0x4000, 0x02), (0x4000, 0xFF), (0x7FFF, 0x03), (0x6000, 0x00), (0x4000, 0x03), (0x6000, 0xFE)] =
      [(0x01, 0, false, false), (0x01, 2, false, false), (0x01, 3, false, false), (0x01, 3, false, false), (0x01, 0, true, false), (0x01, 0, true, false), (0x01, 0, true, false)] := by decide

theorem test_B7_no_controller :
    controlWrites State.reset [(0x0000, 0x0A), (0x2000, 0x05), (0x4000, 0x60), (0x6000, 0x01)] =
      [(0x01, 0, true, false), (0x01, 0, true, false), (0x01, 0, true, false), (0x01, 0, true, false)] := by decide

/-- The image of the sequence M: eight banks, each with a tag in its first and its last byte. -/
def bankedRom : Memory :=
  [(0x147, 0x01), (0x3FFF, 0xE0), (0x4000, 0xB1), (0x7FFF, 0xE1), (0x8000, 0xB2), (0xBFFF, 0xE2), (0xC000, 0xB3), (0xFFFF, 0xE3)] ++
  [(0x10000, 0xB4), (0x13FFF, 0xE4), (0x14000, 0xB5), (0x17FFF, 0xE5), (0x18000, 0xB6), (0x1BFFF, 0xE6), (0x1C000, 0xB7), (0x1FFFF, 0xE7)]

/-- The state the sequence M starts from, the ROM bank apart. -/
def banked (bank : BitVec 8) : State :=
  { State.reset with rom := bankedRom, romLen := 0x20000, bankingType := .MBC1, currentRomBank := bank }

theorem test_M1_to_M3_windows_at_reset :
    [0x3FFF, 0x4000, 0x7FFF].map (busRead (banked 1)) = [.ok 0xE0, .ok 0xB1, .ok 0xE1] := by decide

theorem test_M4_to_M8_switched_window :
    [0x4000, 0x7FFF, 0x3FFF, 0x0147].map (busRead (busWrite (banked 1) 0x2000 0x05)) = [.ok 0xB5, .ok 0xE5, .ok 0xE0, .ok 0x01] := by decide

theorem test_M9_M10_bank_beyond_the_image :
    banks (busWrite (banked 5) 0x2000 0x08) = (0x08, 0, true, false) ∧
    busRead (busWrite (banked 5) 0x2000 0x08) 0x4000 = .error (.romIndexOutOfRange 0x20000) := by decide

/-- The RAM pool of the sequence S: a tag in the first and the last byte of each bank. -/
def taggedPool : Memory :=
  [(0x0000, 0x10), (0x1FFF, 0x20), (0x2000, 0x11), (0x3FFF, 0x21), (0x4000, 0x12), (0x5FFF, 0x22), (0x6000, 0x13), (0x7FFF, 0x23)]

/-- The state the sequence S starts from. -/
def pooled : State :=
  { State.reset with rom := [(0x147, 0x03)], bankingType := .MBC1, ramBanks := taggedPool }

/-- The state after bus writes in order. -/
def busWrites (s : State) : List (Word × Byte) → State
  | [] => s
  | (a, v) :: rest => busWrites (busWrite s a v) rest

theorem test_S1_to_S6_gate :
    busRead (busWrite pooled 0xA000 0x99) 0xA000 = .ok 0x10 ∧
    busRead (busWrites pooled [(0x0000, 0x0A), (0xA000, 0x99)]) 0xA000 = .ok 0x99 := by decide

theorem test_S7_to_S10_ram_bank :
    [0xA000, 0xBFFF].map (busRead (busWrites pooled [(0x6000, 0x01), (0x4000, 0x02)])) = [.ok 0x12, .ok 0x22] := by decide

theorem test_S18_pool_after_the_sequence :
    [0x0000, 0x5FFF, 0x7FFF].map (busWrites pooled [(0xA000, 0x99), (0x0000, 0x0A), (0xA000, 0x99), (0x6000, 0x01), (0x4000, 0x02),
      (0xBFFF, 0x77), (0x4000, 0x03), (0x6000, 0x00), (0x0000, 0x00), (0xA000, 0x55)]).ramBanks.read = [0x99, 0x77, 0x23] := by decide

/-! ## Load: the rows A -/

/-- What load gives for an image with the header byte and zeros. -/
def loaded (len : Nat) (header : Byte) : Result :=
  load (some (len, Memory.write [] Config.headerOffset header)) [] [] .flatRam .stub Config.defaultVectors none

/-- The abort of a load, or the banking type. -/
def loadOutcome (len : Nat) (header : Byte) : Option Fault × Option BankingType :=
  match loaded len header with
  | .next t => (none, some t.bankingType)
  | .fault f => (some f, none)
  | .refused _ => (none, none)

theorem test_A1_to_A4_size :
    [0x0, 0x100, 0x6000, 0x400000].map (loadOutcome · 0x00) =
      [(some (.romSizeInvalid 0x0), none), (some (.romSizeInvalid 0x100), none), (some (.romSizeInvalid 0x6000), none),
       (some (.romSizeInvalid 0x400000), none)] := by decide

theorem test_A5_A6_A10_header :
    loadOutcome 0x8000 0x07 = (some (.unsupportedBankingType 0x07), none) ∧ loadOutcome 0x6000 0x07 = (some (.romSizeInvalid 0x6000), none) ∧
    loadOutcome 0x8000 0xFF = (some (.unsupportedBankingType 0xFF), none) := by decide

theorem test_A7_A8_A9_accepted :
    loadOutcome 0x8000 0x06 = (none, some .MBC2) ∧ loadOutcome 0x200000 0x03 = (none, some .MBC1) ∧
    loadOutcome 0x8000 0x04 = (none, some .MBC2) := by decide

/-! ## The platform: the two behaviours of R47 -/

/-- Which oracle stands at the platform addresses, the addresses of the accesses it has seen, the newest first, and the image it began with. -/
def oracleOf (s : State) : Option (Nat × List Word × Memory) :=
  match s.platBehaviour with
  | .flatRam => none
  | .oracle seed seen => some (seed, seen.map busAddress, s.plat)

theorem test_R47_flat_ram_keeps_what_is_written :
    after { boot [0x34] with hl := ⟨0xC0, 0x00⟩, plat := [(0xC000, 0x41)] } 
      (fun t => (t.plat.read 0xC000, t.platBehaviour)) = some (0x42, .flatRam) := by decide

theorem test_R47_oracle_is_read_then_written :
    after { boot [0x34] with hl := ⟨0xC0, 0x00⟩, plat := [(0xC000, 0x41)], platBehaviour := .oracle 7 [] } oracleOf =
      some (some (7, [0xC000, 0xC000], [(0xC000, 0x41)])) := by decide

theorem test_R47_oracle_sees_no_access_elsewhere :
    after { boot [0x7E] with platBehaviour := .oracle 7 [.read 0x8000] } oracleOf = some (some (7, [0x8000], [])) := by decide

theorem test_R100_oracle_sees_both_bytes_of_a_push :
    after { boot [0xC5] with sp := ⟨0xD0, 0x00⟩, platBehaviour := .oracle 7 [] } oracleOf = some (some (7, [0xCFFE, 0xCFFF], [])) := by decide

theorem test_placed_word_is_read_where_an_oracle_was :
    after (({ State.reset with pc := 0xC000, platBehaviour := .oracle 7 [] } : State).withFetchWord 8 0x3C)
      (fun t => (t.getR8 .A, t.pc)) = some (0x02, 0xC001) := by decide

/-! ## The interrupt collaborator: the rows I -/

theorem test_I1_dispatch_wakes_and_pushes :
    after { State.reset with pc := 0x0151, halted := true, ime := true, sp := ⟨0xD0, 0x00⟩, intAgent := some [.dispatch 0x0040] }
      (fun t => (t.pc, t.sp.value, t.ime, t.halted, t.plat.read 0xCFFF, t.plat.read 0xCFFE)) =
      some (0x0040, 0xCFFE, false, false, 0x01, 0x51) := by decide

theorem test_I3_dispatch_not_allowed :
    after { State.reset with pc := 0x0151, halted := true, intAgent := some [.dispatch 0x0040] } (fun t => t) =
      some { State.reset with pc := 0x0151, halted := true, intAgent := some [] } := by decide

theorem test_I4_wake :
    after { State.reset with pc := 0x0151, halted := true, intAgent := some [.wake, .cpu] } (fun t => t) =
      some { State.reset with pc := 0x0151, intAgent := some [.cpu] } := by decide

theorem test_I6_dispatch_into_the_control_range :
    after { State.reset with bankingType := .MBC1, pc := 0x0305, ime := true, sp := ⟨0x20, 0x01⟩, intAgent := some [.dispatch 0x0048] }
      (fun t => (t.pc, t.sp.value, t.ime, t.currentRomBank, t.ramWriteEnabled, t.plat.length)) =
      some (0x0048, 0x1FFF, false, 0x03, false, 0) := by decide

/-! ## Witnesses: the hypotheses of each statement, met by concrete states and operands -/

/-- A state of an MBC2 cartridge of 0x40000 bytes that meets the invariant. -/
def mbc2State : State :=
  { State.reset with rom := [(0x147, 0x05)], romLen := 0x40000, bankingType := .MBC2, currentRomBank := 0x0F, ramWriteEnabled := true }

/-- A state of an MBC1 cartridge in RAM banking mode that meets the invariant, with bytes in both memories. -/
def mbc1State : State :=
  { State.reset with rom := [(0x100, 0xF3), (0x147, 0x03)], romLen := 0x200000, bankingType := .MBC1, currentRomBank := 0x60, currentRamBank := 3,
                     romBankingMode := false, ramWriteEnabled := true, ramBanks := [(0x7FFF, 0x23)], plat := [(0x8000, 0x01), (0xFFFF, 0x1F)] }

/-- A state with HL and SP in a window the image does not reach: no byte can be read there. -/
def unreadable : State :=
  { State.reset with bankingType := .MBC1, rom := [(0x147, 0x01)], currentRomBank := 0x1F, hl := ⟨0x40, 0x00⟩, sp := ⟨0x40, 0x00⟩ }

/-- A state with HL at a byte of platform memory and the stack in platform memory. -/
def readable : State :=
  { State.reset with hl := ⟨0xC0, 0x00⟩, sp := ⟨0xD0, 0x00⟩, plat := [(0xC000, 0xFF), (0xD000, 0x53), (0xD001, 0x01)] }

theorem witness_DecodeEncodeRoundTrip :
    (Instr.ld_SP_d16 0xFFFF).wellFormed = true ∧ (Instr.jr_e8 0x80).wellFormed = true ∧ Instr.set_7_A.wellFormed = true ∧
    (Instr.unassigned 0x10).wellFormed = true := by decide

theorem witness_DecodedBytesReencode :
    decode [0x31, 0xFF, 0xFF, 0x00] = .ok (.ld_SP_d16 0xFFFF, [0x00]) ∧ decode [0xCB, 0xFF] = .ok (.set_7_A, []) := by decide

theorem witness_UnassignedValuesAreTheTwelve :
    decodeOp 0x10 0x00 0x00 = .unassigned 0x10 ∧ decodeOp 0xFD 0xFF 0xFF = .unassigned 0xFD := by decide

theorem witness_StepRunsTheDecodedInstruction :
    CpuTurn (bootAt 0xFFFE [0x01, 0x34, 0x12]) (bootAt 0xFFFE [0x01, 0x34, 0x12]) ∧
    (bootAt 0xFFFE [0x01, 0x34, 0x12]).halted = false ∧ (Instr.ld_BC_d16 0x1234).wellFormed = true ∧
    BytesRead (bootAt 0xFFFE [0x01, 0x34, 0x12]) 0xFFFE (encode (.ld_BC_d16 0x1234)) (bootAt 0xFFFE [0x01, 0x34, 0x12]) :=
  ⟨rfl, rfl, rfl, by decide, by decide, by decide, rfl⟩

/-- A state with an oracle at the platform addresses, and HL at one of them. -/
def withOracle : State := { boot [0x34] with hl := ⟨0xC0, 0x00⟩, platBehaviour := .oracle 7 [] }

theorem witness_StepRunsTheDecodedInstruction_with_an_oracle :
    CpuTurn withOracle withOracle ∧ withOracle.halted = false ∧ Instr.inc_atHL.wellFormed = true ∧
    BytesRead withOracle 0x0100 (encode .inc_atHL) withOracle := ⟨rfl, rfl, rfl, by decide, rfl⟩

theorem witness_UnassignedOpcodeAborts :
    CpuTurn { boot [0xFD] with intAgent := some [.cpu] } { boot [0xFD] with intAgent := some [] } ∧ (boot [0xFD]).halted = false ∧
    busRead (boot [0xFD]) (boot [0xFD]).pc = .ok 0xFD ∧ 0xFD ∈ unassignedValues := ⟨rfl, rfl, by decide, by decide⟩

theorem witness_HaltedStepStallsForEver :
    CpuTurn { State.reset with halted := true } { State.reset with halted := true } ∧ ({ State.reset with halted := true } : State).Ended :=
  ⟨rfl, rfl, rfl⟩

theorem witness_CoveredImageNeverAbortsOnRom :
    State.reset.WindowsInImage ∧ mbc2State.WindowsInImage ∧
    (State.reset.Inv ∧ State.reset.bankingType = .None ∧ 0x8000 ≤ State.reset.romLen) ∧
    (mbc2State.Inv ∧ mbc2State.bankingType = .MBC2 ∧ 0x40000 ≤ mbc2State.romLen) := by decide

theorem witness_StepKeepsInvariant :
    mbc1State.Inv ∧ step mbc1State = .next (({ mbc1State with pc := 0x0101 }).setCost 4) := ⟨by decide, rfl⟩

theorem witness_StepKeepsFlagNibbleClear :
    mbc2State.FlagNibbleClear ∧ step mbc2State = .next (({ mbc2State with pc := 0x0101 }).setCost 4) := ⟨by decide, rfl⟩

theorem witness_StepKeepsRomBankLegal :
    (State.reset.BanksLegal ∧ State.reset.bankingType = .None) ∧ (mbc1State.BanksLegal ∧ mbc1State.bankingType = .MBC1) ∧
    (mbc2State.BanksLegal ∧ mbc2State.bankingType = .MBC2) ∧ step mbc2State = .next (({ mbc2State with pc := 0x0101 }).setCost 4) :=
  ⟨by decide, by decide, by decide, rfl⟩

theorem witness_StepKeepsImageAndParameters :
    step mbc1State = .next (({ mbc1State with pc := 0x0101 }).setCost 4) := rfl

theorem witness_LoadChecksThenConstructs_legal_lengths :
    (∃ k, 9 ≤ k ∧ k ≤ 21 ∧ 0x200 = 2 ^ k) ∧ (∃ k, 9 ≤ k ∧ k ≤ 21 ∧ 0x200000 = 2 ^ k) ∧
    6 < ((Memory.write [] 0x147 0x07).read 0x147).toNat ∧
    [0x00, 0x01, 0x03, 0x04, 0x06].map (fun h => ((Memory.write [] 0x147 h).read 0x147).toNat) = [0, 1, 3, 4, 6] :=
  ⟨⟨9, by decide⟩, ⟨21, by decide⟩, by decide, by decide⟩

theorem witness_LoadChecksThenConstructs_illegal_lengths :
    (¬∃ k, 9 ≤ k ∧ k ≤ 21 ∧ 0x100 = 2 ^ k) ∧ (¬∃ k, 9 ≤ k ∧ k ≤ 21 ∧ 0x400000 = 2 ^ k) := by
  constructor <;> (rintro ⟨k, h1, h2, h3⟩; interval_cases k <;> simp_all)

theorem witness_LoadMeetsInvariant :
    Memory.wf [(0x147, 0x05)] = true ∧ Memory.within (fun a => decide (a < 0x200)) [(0x147, 0x05)] = true ∧
    Memory.wf [(0x7FFF, 0x01)] = true ∧ Memory.within (fun a => decide (a < 0x8000)) [(0x7FFF, 0x01)] = true ∧
    Memory.wf [(0x8000, 0x01), (0xFFFF, 0x01)] = true ∧ Memory.within inPlatform [(0x8000, 0x01), (0xFFFF, 0x01)] = true ∧
    loadOutcome 0x200 0x05 = (none, some .MBC2) := by decide

/-- A state with an image shorter than the fixed window. -/
def shortImage : State := { State.reset with romLen := 0x200 }

theorem witness_BusReadByRegion :
    State.reset.platBehaviour = .flatRam ∧
    ((0x3FFF : Word).toNat < 0x4000 ∧ (0x3FFF : Word).toNat < State.reset.romLen) ∧
    ((0x0200 : Word).toNat < 0x4000 ∧ shortImage.romLen ≤ (0x0200 : Word).toNat) ∧
    (0x4000 ≤ (0x4000 : Word).toNat ∧ (0x7FFF : Word).toNat < 0x8000 ∧
      State.reset.currentRomBank.toNat * 0x4000 + ((0x4000 : Word).toNat - 0x4000) < State.reset.romLen ∧
      State.reset.currentRomBank.toNat * 0x4000 + ((0x7FFF : Word).toNat - 0x4000) < State.reset.romLen ∧
      unreadable.romLen ≤ unreadable.currentRomBank.toNat * 0x4000 + ((0x4000 : Word).toNat - 0x4000)) ∧
    (0x8000 ≤ (0x8000 : Word).toNat ∧ (0x9FFF : Word).toNat < 0xA000) ∧ (0xA000 ≤ (0xA000 : Word).toNat ∧ (0xBFFF : Word).toNat < 0xC000) ∧
    0xC000 ≤ (0xC000 : Word).toNat := by decide

theorem witness_BusReadByRegion_edges :
    [0x0000, 0x3FFF, 0x4000, 0x7FFF, 0x8000, 0x9FFF].map (busRead mbc1State) = [.ok 0x00, .ok 0x00, .ok 0x00, .ok 0x00, .ok 0x01, .ok 0x00] ∧
    [0xA000, 0xBFFF, 0xC000, 0xFFFF].map (busRead mbc1State) = [.ok 0x00, .ok 0x23, .ok 0x00, .ok 0x1F] := by decide

theorem witness_BusWriteByRegion :
    State.reset.platBehaviour = .flatRam ∧ (0x7FFF : Word).toNat < 0x8000 ∧ (0x8000 ≤ (0x8000 : Word).toNat ∧ (0x9FFF : Word).toNat < 0xA000) ∧
    (0xA000 ≤ (0xA000 : Word).toNat ∧ (0xBFFF : Word).toNat < 0xC000 ∧ mbc1State.ramWriteEnabled = true ∧ State.reset.ramWriteEnabled = false) ∧
    0xC000 ≤ (0xC000 : Word).toNat := by decide

theorem witness_PairAndHalvesAreOneStorage : halves .BC = [.B, .C] ∧ halves .DE = [.D, .E] ∧ halves .HL = [.H, .L] := by decide

theorem witness_StoredByteIsReadBack :
    mbc1State.plat.wf = true ∧ mbc1State.ramBanks.wf = true ∧ Holds mbc1State 0x8000 ∧ Holds mbc1State 0xA000 ∧ Holds mbc1State 0xBFFF ∧
    Holds mbc1State 0xFFFF := by unfold Holds; decide

theorem witness_RamToggleFollowsLowNibble :
    (mbc2State.bankingType = .MBC2 ∧ (0x1FFF : Word).toNat < 0x2000 ∧ bitOf 0x1FFF 3 = 1 ∧ bitOf 0x1FF7 3 = 0) ∧
    mbc1State.bankingType = .MBC1 ∧ State.reset.bankingType = .None ∧
    0x1A % 0x10 = 0xA ∧ 0xF0 % 0x10 = 0x0 ∧ (0x05 % 0x10 ≠ 0xA ∧ 0x05 % 0x10 ≠ 0x0) := by decide

theorem witness_RomBankLowBits :
    mbc2State.bankingType = .MBC2 ∧ mbc1State.bankingType = .MBC1 ∧ State.reset.bankingType = .None ∧
    (0x2000 ≤ (0x2000 : Word).toNat ∧ (0x3FFF : Word).toNat < 0x4000) := by decide

theorem witness_UpperBitsOrRamBank :
    (mbc1State.bankingType = .MBC1 ∧ mbc1State.romBankingMode = false) ∧
    (({ mbc1State with romBankingMode := true, currentRamBank := 0 } : State).romBankingMode = true) ∧ mbc2State.bankingType ≠ .MBC1 ∧
    (0x4000 ≤ (0x4000 : Word).toNat ∧ (0x5FFF : Word).toNat < 0x6000) := by decide

theorem witness_ModeSelectAndNoController :
    State.reset.bankingType = .None ∧ (mbc1State.bankingType = .MBC1 ∧ 0xFE % 2 = 0 ∧ 0x03 % 2 = 1) ∧ mbc2State.bankingType = .MBC2 ∧
    (0x6000 ≤ (0x6000 : Word).toNat ∧ (0x7FFF : Word).toNat < 0x8000) := by decide

theorem witness_PopAfterPushRestores :
    (readable.plat.wf = true ∧ readable.ramBanks.wf = true ∧ Holds readable (readable.sp.value - 1) ∧ Holds readable (readable.sp.value - 2)) ∧
    (({ mbc1State with sp := ⟨0xC0, 0x01⟩ } : State).sp.value = 0xC001 ∧ Holds mbc1State (0xC001 - 1) ∧ Holds mbc1State (0xC001 - 2)) := by
  unfold Holds; decide

theorem witness_RegisterAndImmediateThroughHL :
    busRead readable readable.hl.value = .ok 0xFF ∧ busRead unreadable unreadable.hl.value = .error (.romIndexOutOfRange 0x7C000) := by decide

theorem witness_AccumulatorThroughMemory :
    (Instr.ld_A_atA16 0x7FFF, Instr.ld_atA16_A 0x7FFF, [0xFA, lo8 0x7FFF, hi8 0x7FFF], [0xEA, lo8 0x7FFF, hi8 0x7FFF], (0x7FFF : Word), 16) ∈
      [(Instr.ld_A_atBC, Instr.ld_atBC_A, [(0x0A : Byte)], [(0x02 : Byte)], readable.bc.value, 8),
       (.ld_A_atA16 0x7FFF, .ld_atA16_A 0x7FFF, [0xFA, lo8 0x7FFF, hi8 0x7FFF], [0xEA, lo8 0x7FFF, hi8 0x7FFF], 0x7FFF, 16)] ∧
    busRead readable (BitVec.ofNat 16 (0xFF00 + (0xFF : Byte).toNat)) = .ok 0x00 ∧ busRead readable readable.bc.value = .ok 0x00 ∧
    busRead unreadable 0x7FFF = .error (.romIndexOutOfRange 0x7FFFF) := ⟨by simp, by decide, by decide, by decide⟩

theorem witness_AccumulatorThroughHLThenStep :
    (readable.hl.value.toNat + 1) % 0x10000 = 0xC001 ∧ (readable.hl.value.toNat + 0xFFFF) % 0x10000 = 0xBFFF ∧
    busRead readable readable.hl.value = .ok 0xFF ∧ busRead unreadable unreadable.hl.value = .error (.romIndexOutOfRange 0x7C000) := by decide

theorem witness_StoreStackPointerLittleEndian :
    readable.plat.wf = true ∧ readable.ramBanks.wf = true ∧ Holds readable 0xFFFE ∧ Holds readable (0xFFFE + 1) := by unfold Holds; decide

theorem witness_StackPointerPlusDisplacement :
    decide (readable.sp.value.toNat % 0x10 + (0x80 : Byte).toNat % 0x10 > 0xF) = false ∧
    decide (readable.sp.value.toNat % 0x100 + (0x80 : Byte).toNat > 0xFF) = false ∧
    displacement 0x80 = -128 ∧ displacement 0x7F = 127 := by decide

theorem witness_PopPair :
    busRead readable readable.sp.value = .ok 0x53 ∧ busRead (readable.noteRead readable.sp.value) (readable.sp.value + 1) = .ok 0x01 ∧
    stackedPair .HL = some .HL := by decide

theorem witness_IncrementDecrementAtHL : busRead readable readable.hl.value = .ok 0xFF := by decide

theorem witness_Jumps :
    ((0x00D2 : Word).toNat : Int) = (((0x0152 : Word).toNat : Int) + displacement 0x80) % 0x10000 ∧
    ((0xFFFF : Word).toNat : Int) = (((0x0002 : Word).toNat : Int) + displacement 0xFD) % 0x10000 := by decide

theorem witness_CallsPushTheReturnAddress :
    holdsOf State.reset .Z = true ∧ holdsOf State.reset .C = true ∧ holdsOf State.reset .NZ = false ∧ holdsOf State.reset .NC = false ∧
    Instr.rst .o7 = .rst_38 := by decide

theorem witness_ReturnsPopTheProgramCounter :
    busRead readable readable.sp.value = .ok 0x53 ∧ busRead (readable.noteRead readable.sp.value) (readable.sp.value + 1) = .ok 0x01 ∧
    holdsOf readable .C = true ∧ holdsOf readable .NC = false := by decide

theorem witness_AddWithAndWithoutCarry :
    sourceByte readable .atHL = .ok 0xFF ∧ sourceByte readable (.reg .A) = .ok 0x01 ∧ sourceByte readable (.imm 0x0B) = .ok 0x0B ∧
    0x01 = (readable.getR8 .A).toNat ∧ (AluOp.ADC, 1) ∈ [(AluOp.ADD, 0), (AluOp.ADC, carryOf readable)] := by decide

theorem witness_SubtractAndCompare :
    sourceByte readable .atHL = .ok 0xFF ∧ 0x01 = (readable.getR8 .A).toNat ∧
    (AluOp.SBC, 1) ∈ [(AluOp.SUB, 0), (AluOp.SBC, carryOf readable), (AluOp.CP, 0)] ∧
    (AluOp.CP, 0) ∈ [(AluOp.SUB, 0), (AluOp.SBC, carryOf readable), (AluOp.CP, 0)] := by decide

theorem witness_LogicOperations : sourceByte readable .atHL = .ok 0xFF ∧ sourceByte readable (.reg .L) = .ok 0x00 := by decide

/-- A state with SP at the last address of the fixed window: the byte there can be read, the next cannot. -/
def splitStack : State := { unreadable with sp := ⟨0x3F, 0xFF⟩ }

theorem witness_UnreadableOperandAborts :
    busRead unreadable unreadable.hl.value = .error (.romIndexOutOfRange 0x7C000) ∧
    ({ unreadable with cbMode := .silicon } : State).cbMode = .silicon ∧
    busRead unreadable unreadable.sp.value = .error (.romIndexOutOfRange 0x7C000) ∧
    (busRead splitStack splitStack.sp.value = .ok 0x00 ∧ busRead (splitStack.noteRead splitStack.sp.value) (splitStack.sp.value + 1) = .error (.romIndexOutOfRange 0x7C000)) ∧
    holdsOf unreadable .C = true := by decide

theorem witness_DecimalAdjust :
    0x9A = (({ State.reset with af := ⟨0x9A, 0x00⟩ } : State).getR8 .A).toNat ∧
    0x06 = (if ({ State.reset with af := ⟨0x9A, 0x00⟩ } : State).fH = true ∨
      (({ State.reset with af := ⟨0x9A, 0x00⟩ } : State).fN = false ∧ 0x9A % 0x10 > 9) then 0x06 else 0) ∧
    0x60 = (if ({ State.reset with af := ⟨0x9A, 0x00⟩ } : State).fC = true ∨
      (({ State.reset with af := ⟨0x9A, 0x00⟩ } : State).fN = false ∧ 0x9A > 0x99) then 0x60 else 0) := by decide

theorem witness_PackedDecimalArithmetic :
    99 < 100 ∧ 38 < 100 ∧ ({ State.reset with af := ⟨0x38, 0xB0⟩ } : State).getR8 .A = packed 38 := by decide

theorem witness_AccumulatorRotates :
    (Instr.rra, RotOp.RR, 0x1F) ∈ [(Instr.rlca, RotOp.RLC, 0x07), (Instr.rla, RotOp.RL, 0x17), (Instr.rrca, RotOp.RRC, 0x0F), (Instr.rra, RotOp.RR, 0x1F)] := by
  decide

theorem witness_ExtendedRotatesAndShifts :
    operandByte readable .atHL = .ok 0xFF ∧ ({ readable with cbMode := .silicon } : State).cbMode = .silicon ∧
    operandByte { readable with cbMode := .silicon } .atHL = .ok 0xFF ∧ operandByte readable (.reg .A) = .ok 0x01 ∧
    RotOp.SRL ≠ .RLC ∧ unreadable.cbMode = .stub := by decide

theorem witness_ExtendedBitOperations :
    ({ readable with cbMode := .silicon } : State).cbMode = .silicon ∧ operandByte { readable with cbMode := .silicon } .atHL = .ok 0xFF ∧
    operandByte { readable with cbMode := .silicon } (.reg .B) = .ok 0x00 ∧ unreadable.cbMode = .stub := by decide

theorem witness_PrefixRunsTheExtendedInstruction : busRead readable readable.hl.value = .ok 0xFF := by decide

theorem witness_ControlBitsAreWrittenByFourAndReadByNone :
    exec .halt State.reset = .next (({ State.reset with halted := true }).setCost 4) ∧
    exec .ei State.reset = .next (({ State.reset with ime := true }).setCost 4) ∧
    exec .ret unreadable = .fault (.romIndexOutOfRange 0x7C000) ∧ Instr.nop ≠ .di ∧ Instr.nop ≠ .ei ∧ Instr.nop ≠ .reti ∧ Instr.nop ≠ .halt ∧
    CpuTurn { State.reset with halted := true } { State.reset with halted := true } ∧
    step { State.reset with halted := true } = .next (({ State.reset with halted := true }).setCost 4) :=
  ⟨rfl, rfl, rfl, by decide, by decide, by decide, by decide, rfl, rfl⟩

theorem witness_CostsAreOfTheSet :
    CpuTurn State.reset State.reset ∧ step State.reset = .next (({ State.reset with pc := 0x0101 }).setCost 4) := ⟨rfl, rfl⟩

theorem witness_CollaboratorMoves :
    ({ mbc1State with intAgent := some [.wake] } : State).intAgent = some (.wake :: []) ∧
    ({ readable with ime := true, intAgent := some [.dispatch 0x0060, .cpu] } : State).intAgent = some (.dispatch 0x0060 :: [.cpu]) ∧
    ({ readable with ime := true } : State).ime = true ∧ 0x0040 ∈ readable.intVectors ∧ 0x0060 ∈ readable.intVectors := by decide

theorem witness_ForbiddenDispatchChangesNothing :
    ({ State.reset with intAgent := some [.dispatch 0x0040] } : State).intAgent = some (.dispatch 0x0040 :: []) ∧ State.reset.ime = false ∧
    0x0068 ∉ State.reset.intVectors := by decide

theorem witness_InterruptThenReturnResumes :
    ({ readable with ime := true } : State).ime = true ∧ 0x0040 ∈ readable.intVectors ∧ readable.plat.wf = true ∧ readable.ramBanks.wf = true ∧
    Holds readable (readable.sp.value - 1) ∧ Holds readable (readable.sp.value - 2) := by unfold Holds; decide

theorem witness_PlatformIsFlatRamOrOracle :
    (inPlatform (0x8000 : Word).toNat = true ∧ inPlatform (0x9FFF : Word).toNat = true ∧ inPlatform (0xFFFF : Word).toNat = true) ∧
    (inPlatform (0x7FFF : Word).toNat = false ∧ inPlatform (0xA000 : Word).toNat = false ∧ inPlatform (0xBFFF : Word).toNat = false) ∧
    (State.reset.platBehaviour = .flatRam ∧ readByte State.reset 0xC000 = .ok (0x00, State.reset)) ∧
    (withOracle.platBehaviour = .oracle 7 [] ∧ readByte withOracle 0x0100 = .ok (0x34, withOracle)) := by decide

theorem witness_PlatformIsFlatRamOrOracle_steps :
    step State.reset = .next (({ State.reset with pc := 0x0101 }).setCost 4) ∧
    step { withOracle with pc := 0x0102 } = .next (({ withOracle with pc := 0x0103 }).setCost 4) := ⟨rfl, rfl⟩


end Sys2Proof.Tests
end

/-! ## What no step changes: the image, the launch parameters, and the kind of platform -/

section

namespace Sys2Proof.Machine

/-! ### The image and the parameters fixed at launch -/

/-- `t` has the image, the banking type, CB_MODE and the vector set of `s` (R21, R24, R221, R252). -/
def SameLaunch (s t : State) : Prop :=
  t.rom = s.rom ∧ t.romLen = s.romLen ∧ t.bankingType = s.bankingType ∧ t.cbMode = s.cbMode ∧ t.intVectors = s.intVectors

/-- No named update touches them, a bus write included: a control write sets bank registers only (R42, R49). -/
theorem Built.sameLaunch {s t : State} (h : Built s t) : SameLaunch s t := by
  unfold SameLaunch
  induction h with
  | start => exact ⟨rfl, rfl, rfl, rfl, rfl⟩
  | setR8 _ _ _ ih | setR16 _ _ _ ih | setSp _ _ ih | setPc _ _ ih | setIme _ _ ih | setHalted _ _ ih
  | setFlags _ _ ih | setCost _ _ ih | loadAF _ _ _ ih | busWrite _ _ _ ih | noteRead _ _ ih => simpa using ih

/-- Settles O14: a step is built of the named updates, from the state with its turn used up. -/
theorem stepKeepsImageAndParameters : Obligations.StepKeepsImageAndParameters := by
  intro s t h
  obtain ⟨_, hb⟩ := step_built h
  exact hb.sameLaunch

/-! ### Reading and writing the platform -/

/-- A read of the platform region gives what the platform answers (R41, R47). -/
theorem busRead_inPlatform {a : Word} (h : inPlatform a.toNat = true) (s : State) : busRead s a = .ok (platRead s a) := by
  simp only [inPlatform, Bool.or_eq_true, Bool.and_eq_true, decide_eq_true_eq] at h
  rw [busRead, if_neg (by omega), if_neg (by omega)]
  rcases h with ⟨_, hlow⟩ | ⟨hhigh, _⟩
  · rw [if_pos hlow]
  · rw [if_neg (by omega), if_neg (by omega)]

/-- A write of the platform region goes to the platform and nowhere else (R42, R47). -/
theorem busWrite_inPlatform {a : Word} (h : inPlatform a.toNat = true) (s : State) (v : Byte) :
    busWrite s a v = platWrite s a v := by
  simp only [inPlatform, Bool.or_eq_true, Bool.and_eq_true, decide_eq_true_eq] at h
  rcases busWrite_cases s a v with ⟨_, _⟩ | ⟨_, e⟩ | ⟨_, _, _⟩ | ⟨_, _, _⟩
  · omega
  · exact e
  · omega
  · omega

/-- A read that completes gives the byte read and the state with the read noted. -/
theorem readByte_eq_ok {s t : State} {a : Word} {v : Byte} (h : readByte s a = .ok (v, t)) :
    busRead s a = .ok v ∧ t = s.noteRead a := by
  unfold readByte at h
  split at h
  · cases h
  · next e => cases h; exact ⟨e, rfl⟩

/-- Only an oracle sees a read, and only one in the platform region (R47, R59). -/
theorem State.noteRead_eq_self {s : State} {a : Word} (h : s.platBehaviour = .flatRam ∨ inPlatform a.toNat = false) :
    s.noteRead a = s := by
  have hn : s.platBehaviour.note (.read a) = s.platBehaviour := by
    rcases h with h | h
    · rw [h, PlatBehaviour.note_flatRam]
    · exact PlatBehaviour.note_outside (x := .read a) h _
  rw [State.noteRead, hn]

/-! ### The platform along a step -/

@[simp] theorem PlatBehaviour.afterAll_append (p : PlatBehaviour) (xs ys : List BusAccess) :
    p.afterAll (xs ++ ys) = (p.afterAll xs).afterAll ys := List.foldl_append

/-- Flat RAM stays flat RAM, and nothing else becomes it. -/
@[simp] theorem PlatBehaviour.afterAll_eq_flatRam (p : PlatBehaviour) (xs : List BusAccess) :
    p.afterAll xs = .flatRam ↔ p = .flatRam := by
  induction xs generalizing p with
  | nil => rfl
  | cons x xs ih => rw [PlatBehaviour.afterAll_cons, ih, PlatBehaviour.note_eq_flatRam]

/-- An oracle stays the same oracle, and what it has seen only grows, at the front. -/
theorem PlatBehaviour.afterAll_oracle (seed : Nat) (seen xs : List BusAccess) :
    ∃ new, (PlatBehaviour.oracle seed seen).afterAll xs = .oracle seed (new ++ seen) := by
  induction xs generalizing seen with
  | nil => exact ⟨[], rfl⟩
  | cons x xs ih =>
    rw [PlatBehaviour.afterAll_cons]
    by_cases hx : inPlatform (busAddress x).toNat = true
    · obtain ⟨new, e⟩ := ih (x :: seen)
      exact ⟨new ++ [x], by rw [PlatBehaviour.note_inside hx, e, List.append_assoc]; rfl⟩
    · rw [PlatBehaviour.note_outside (by simpa using hx)]
      exact ih seen

/-- Only a flat RAM stores what is written to the bus; the image an oracle began with stays (R47). -/
theorem busWrite_plat_of_ne_flatRam {s : State} (h : s.platBehaviour ≠ .flatRam) (a : Word) (v : Byte) :
    (busWrite s a v).plat = s.plat := by
  obtain ⟨_, _, _, _, hm⟩ := manageBanking_eq s a v
  rcases busWrite_cases s a v with ⟨_, e⟩ | ⟨_, e⟩ | ⟨_, _, _, e⟩ | ⟨_, _, _, e⟩
  · rw [e, hm]
  · rcases platWrite_plat s a v with ⟨hf, _⟩ | ⟨_, hp⟩
    · exact absurd hf h
    · rw [e, hp]
  · rw [e]
  · rw [e]

/-- `t` has the platform of `s` after some accesses of the bus, and an oracle the image it began with (R47, R60). -/
def PlatformAfterAccesses (s t : State) : Prop :=
  (∃ xs, t.platBehaviour = s.platBehaviour.afterAll xs) ∧ (s.platBehaviour ≠ .flatRam → t.plat = s.plat)

/-- Of the named updates only a bus read and a bus write reach the platform, each as one access. -/
theorem Built.platformAfterAccesses {s t : State} (h : Built s t) : PlatformAfterAccesses s t := by
  unfold PlatformAfterAccesses
  induction h with
  | start => exact ⟨⟨[], rfl⟩, fun _ => rfl⟩
  | setR8 _ _ _ ih | setR16 _ _ _ ih | setSp _ _ ih | setPc _ _ ih | setIme _ _ ih | setHalted _ _ ih
  | setFlags _ _ ih | setCost _ _ ih | loadAF _ _ _ ih => simpa using ih
  | noteRead _ a ih =>
    obtain ⟨⟨xs, hx⟩, hp⟩ := ih
    exact ⟨⟨xs ++ [.read a], by simp [hx]⟩, hp⟩
  | busWrite _ a v ih =>
    obtain ⟨⟨xs, hx⟩, hp⟩ := ih
    refine ⟨⟨xs ++ [.write a v], by simp [hx]⟩, fun hs => ?_⟩
    rw [busWrite_plat_of_ne_flatRam (by simpa [hx] using hs), hp hs]

/-- Settles O60: the first three clauses by the rule of each access; the last because a step leaves the platform as some accesses do. -/
theorem platformIsFlatRamOrOracle : Obligations.PlatformIsFlatRamOrOracle := by
  refine ⟨fun s a ha => ?_, fun s t a v hs hr => ?_, fun s a v seed seen hs ha => ⟨?_, ?_⟩, fun s t h => ?_⟩
  · exact ⟨_, readByte_ok (busRead_inPlatform ha s)⟩
  · obtain ⟨_, rfl⟩ := readByte_eq_ok hr
    exact State.noteRead_eq_self hs
  · rw [State.noteRead, hs, PlatBehaviour.note_inside (x := .read a) ha]
  · rw [busWrite_inPlatform ha, platWrite_oracle hs, PlatBehaviour.note_inside (x := .write a v) ha]
  · obtain ⟨_, hb⟩ := step_built h
    obtain ⟨⟨xs, hx⟩, hp⟩ := hb.platformAfterAccesses
    refine ⟨fun hs => hx.trans ((PlatBehaviour.afterAll_eq_flatRam _ xs).2 hs), fun seed seen hs => ⟨hp (by simp [hs]), ?_⟩⟩
    simpa [hx, hs] using PlatBehaviour.afterAll_oracle seed seen xs

end Sys2Proof.Machine

end

/-! ## The invariant that every step keeps (10_state.md R14, R22, R26) -/

section

namespace Sys2Proof.Machine

/-! ### A control write keeps the bank registers legal (R50 to R55) -/

/-- `RamToggle` reaches the RAM gate only, which no rule binds but for type None (R50). -/
theorem ramToggle_banksLegal {s : State} (h : s.BanksLegal) (ht : s.bankingType ≠ .None) (a : Word) (v : Byte) :
    (ramToggle s a v).BanksLegal := by
  obtain ⟨hrom, hram, h2, _⟩ := h
  unfold ramToggle
  repeat' split
  all_goals exact ⟨hrom, hram, h2, fun e => absurd e ht⟩

/-- Four bits name a bank up to 0x0F, bumped or not (R51, R55). -/
theorem bumped_lowNibble_le (n : BitVec 4) : (bumped (n.setWidth 8)).toNat ≤ 0x0F := by
  have hn : n.toNat < 2 ^ 4 := n.isLt
  unfold bumped
  split
  · decide
  · simp only [BitVec.toNat_setWidth]; omega

/-- MBC1 binds only the bank 0 and the RAM bank in ROM banking mode (R22, R53). -/
theorem State.banksLegal_of_MBC1 {s : State} (ht : s.bankingType = .MBC1) (hrom : s.currentRomBank ≠ 0)
    (hram : s.romBankingMode = true → s.currentRamBank = 0) : s.BanksLegal :=
  ⟨hrom, hram, fun e => by simp [ht] at e, fun e => by simp [ht] at e⟩

/-- `RomBankLow` bumps, and with MBC2 takes four bits (R51). -/
theorem romBankLow_banksLegal {s : State} (h : s.BanksLegal) (v : Byte) : (romBankLow s v).BanksLegal := by
  have hs := h
  obtain ⟨_, hram, h2, _⟩ := h
  unfold romBankLow
  split
  · exact hs
  · next ht => exact State.banksLegal_of_MBC1 ht (bumped_ne_zero _) hram
  · next ht => exact ⟨bumped_ne_zero _, hram, fun e => ⟨bumped_lowNibble_le _, (h2 e).2⟩, fun e => by simp [ht] at e⟩

/-- `UpperOrRam` bumps in ROM banking mode, and selects a RAM bank only in the other (R52). -/
theorem upperOrRam_banksLegal {s : State} (h : s.BanksLegal) (ht : s.bankingType = .MBC1) (v : Byte) :
    (upperOrRam s v).BanksLegal := by
  obtain ⟨hrom, hram, _, _⟩ := h
  unfold upperOrRam
  split
  · exact State.banksLegal_of_MBC1 ht (bumped_ne_zero _) hram
  · next hm => exact State.banksLegal_of_MBC1 ht hrom fun e => absurd e hm

/-- `ModeSelect` into ROM banking mode clears the RAM bank (R53). -/
theorem modeSelect_banksLegal {s : State} (h : s.BanksLegal) (ht : s.bankingType = .MBC1) (v : Byte) :
    (modeSelect s v).BanksLegal := by
  obtain ⟨hrom, _, _, _⟩ := h
  unfold modeSelect
  split
  · exact State.banksLegal_of_MBC1 ht hrom nofun
  · exact State.banksLegal_of_MBC1 ht hrom fun _ => rfl

theorem manageBanking_banksLegal {s : State} (h : s.BanksLegal) (a : Word) (v : Byte) :
    (manageBanking s a v).BanksLegal := by
  unfold manageBanking
  split
  · exact h
  · next hn =>
    split
    · exact ramToggle_banksLegal h hn a v
    · split
      · exact romBankLow_banksLegal h v
      · split
        · split
          · next ht => exact upperOrRam_banksLegal h ht v
          · exact h
        · split
          · next ht => exact modeSelect_banksLegal h ht v
          · exact h

theorem busWrite_banksLegal {s : State} (h : s.BanksLegal) (a : Word) (v : Byte) : (busWrite s a v).BanksLegal := by
  rcases busWrite_cases s a v with ⟨_, e⟩ | ⟨_, e⟩ | ⟨_, _, _, e⟩ | ⟨_, _, _, e⟩
  · rw [e]; exact manageBanking_banksLegal h a v
  · rw [e]; exact h
  · rw [e]; exact h
  · rw [e]; exact h

/-! ### A bus write keeps the byte stores canonical and in range (R26, R47) -/

/-- The RAM window never leaves the pool: two bits of bank, 0x2000 bytes each (R26, R45). -/
theorem ramOffset_lt_poolSize (s : State) {a : Word} (ha : a.toNat < 0xC000) : ramOffset s a < Config.ramPoolSize := by
  have hb : s.currentRamBank.toNat < 2 ^ 2 := s.currentRamBank.isLt
  unfold ramOffset Config.ramBankSize Config.ramPoolSize
  omega

theorem platWrite_storesLegal {s : State} (h : s.StoresLegal) {a : Word} (ha : inPlatform a.toNat = true) (v : Byte) :
    (platWrite s a v).StoresLegal := by
  obtain ⟨hrom, hromIn, hram, hramIn, hplat, hplatIn⟩ := h
  rcases platWrite_plat s a v with ⟨_, e⟩ | ⟨_, e⟩
  · exact ⟨hrom, hromIn, hram, hramIn, e ▸ Memory.wf_write hplat _ v, e ▸ Memory.within_write hplatIn ha v⟩
  · exact ⟨hrom, hromIn, hram, hramIn, e ▸ hplat, e ▸ hplatIn⟩

theorem busWrite_storesLegal {s : State} (h : s.StoresLegal) (a : Word) (v : Byte) : (busWrite s a v).StoresLegal := by
  obtain ⟨_, _, _, _, hm⟩ := manageBanking_eq s a v
  rcases busWrite_cases s a v with ⟨_, e⟩ | ⟨ha, e⟩ | ⟨_, ha, _, e⟩ | ⟨_, _, _, e⟩
  · rw [e, hm]; exact h
  · rw [e]; exact platWrite_storesLegal h ha v
  · obtain ⟨hrom, hromIn, hram, hramIn, hplat⟩ := h
    rw [e]
    exact ⟨hrom, hromIn, Memory.wf_write hram _ v,
      Memory.within_write hramIn (decide_eq_true (ramOffset_lt_poolSize s ha)) v, hplat⟩
  · rw [e]; exact h

/-! ### What is built from a legal state is legal -/

/-- Only F's own writers reach F, and each clears its low nibble, `POP AF` too (R14, R108). -/
theorem Built.flagNibbleClear {s t : State} (h : Built s t) (hs : s.FlagNibbleClear) : t.FlagNibbleClear := by
  unfold State.FlagNibbleClear at *
  induction h with
  | start => exact hs
  | setFlags _ f _ => exact f.byte_low
  | loadAF _ _ _ _ => exact BitVec.extractLsb'_append_eq_right
  | setR8 _ _ _ ih | setR16 _ _ _ ih | setSp _ _ ih | setPc _ _ ih | setIme _ _ ih | setHalted _ _ ih
  | setCost _ _ ih | busWrite _ _ _ ih | noteRead _ _ ih => simpa using ih

/-- Only a bus write reaches the bank registers (R22, R49). -/
theorem Built.banksLegal {s t : State} (h : Built s t) (hs : s.BanksLegal) : t.BanksLegal := by
  induction h with
  | start => exact hs
  | busWrite _ a v ih => exact busWrite_banksLegal ih a v
  | setR8 _ r _ ih => cases r <;> exact ih
  | setR16 _ p _ ih => cases p <;> exact ih
  | setSp _ _ ih | setPc _ _ ih | setIme _ _ ih | setHalted _ _ ih | setFlags _ _ ih | setCost _ _ ih
  | loadAF _ _ _ ih | noteRead _ _ ih => exact ih

/-- Only a bus write reaches the byte stores (R26, R47). -/
theorem Built.storesLegal {s t : State} (h : Built s t) (hs : s.StoresLegal) : t.StoresLegal := by
  induction h with
  | start => exact hs
  | busWrite _ a v ih => exact busWrite_storesLegal ih a v
  | setR8 _ r _ ih => cases r <;> exact ih
  | setR16 _ p _ ih => cases p <;> exact ih
  | setSp _ _ ih | setPc _ _ ih | setIme _ _ ih | setHalted _ _ ih | setFlags _ _ ih | setCost _ _ ih
  | loadAF _ _ _ ih | noteRead _ _ ih => exact ih

/-- The image and the type its header names stay (R21, R24). -/
theorem Built.imageLegal {s t : State} (h : Built s t) (hs : s.ImageLegal) : t.ImageLegal := by
  obtain ⟨hrom, hlen, htype, _, _⟩ := h.sameLaunch
  rw [State.ImageLegal, hrom, hlen, htype]
  exact hs

theorem Built.inv {s t : State} (h : Built s t) (hs : s.Inv) : t.Inv := by
  obtain ⟨hf, hb, hst, hi⟩ := hs
  exact ⟨h.flagNibbleClear hf, h.banksLegal hb, h.storesLegal hst, h.imageLegal hi⟩

/-- Settles O10: a step is built of the named updates, from the state with its turn used up, and each keeps the invariant. -/
theorem stepKeepsInvariant : Obligations.StepKeepsInvariant := by
  intro s t hs h
  obtain ⟨_, hb⟩ := step_built h
  exact hb.inv hs

/-- Settles O12: among the named updates the writers of F clear its low nibble, the others leave F. -/
theorem stepKeepsFlagNibbleClear : Obligations.StepKeepsFlagNibbleClear := by
  refine ⟨by decide, fun s t hs h => ?_⟩
  obtain ⟨_, hb⟩ := step_built h
  exact hb.flagNibbleClear hs

/-- Settles O13: among the named updates only a bus write reaches the bank registers, and a control write keeps them legal. -/
theorem stepKeepsRomBankLegal : Obligations.StepKeepsRomBankLegal := by
  refine ⟨rfl, by decide, fun s t hs h => ?_⟩
  obtain ⟨_, hb⟩ := step_built h
  obtain ⟨hrom, hram, h2, hn⟩ := hb.banksLegal hs
  exact ⟨⟨hrom, hram, h2, hn⟩, hrom, fun e => (h2 e).1, fun e => (hn e).1⟩

end Sys2Proof.Machine

end

/-! ## Load, the state after reset, and the register pairs (10_state.md R10, R30, R31) -/

section

namespace Sys2Proof.Machine

/-! ### Load (R21, R24, R30, R31, R243) -/

/-- The legal lengths are the powers of two from 2^9 to 2^21 (R24). -/
theorem mem_legalRomLens_iff (len : Nat) : len ∈ legalRomLens ↔ ∃ k, 9 ≤ k ∧ k ≤ 21 ∧ len = 2 ^ k := by
  have hpow : legalRomLens = (List.range' 9 13).map (2 ^ ·) := rfl
  rw [hpow, List.mem_map]
  constructor
  · rintro ⟨k, hk, rfl⟩
    obtain ⟨h9, h21⟩ := List.mem_range'_1.1 hk
    exact ⟨k, h9, by omega, rfl⟩
  · rintro ⟨k, h9, h21, rfl⟩
    exact ⟨k, List.mem_range'_1.2 ⟨h9, by omega⟩, rfl⟩

/-- A header byte above 6 names no banking type (R21). -/
theorem classify_of_gt {v : Byte} (h : 6 < v.toNat) : classify v = none := by
  rw [classify, if_neg (by omega), if_neg (by omega), if_neg (by omega)]

/-- A header byte up to 6 names one of the three (R21). -/
theorem classify_of_le {v : Byte} (h : v.toNat ≤ 6) :
    classify v = some (if v.toNat = 0 then .None else if v.toNat ≤ 3 then .MBC1 else .MBC2) := by
  unfold classify
  split
  · rfl
  · split <;> rfl

section

variable {len : Nat} {image ram plat : Memory} {behaviour : PlatBehaviour} {mode : CbMode} {vectors : List Word}
  {agent : Option (List Turn)}

theorem load_of_illegal_length (h : len ∉ legalRomLens) :
    load (some (len, image)) ram plat behaviour mode vectors agent = .fault (.romSizeInvalid len) := by
  rw [load, if_neg h]

theorem load_of_unknown_header (h : len ∈ legalRomLens) (hc : classify (image.read Config.headerOffset) = none) :
    load (some (len, image)) ram plat behaviour mode vectors agent =
      .fault (.unsupportedBankingType (image.read Config.headerOffset)) := by
  rw [load, if_pos h, hc]

theorem load_of_known_header {t : BankingType} (h : len ∈ legalRomLens)
    (hc : classify (image.read Config.headerOffset) = some t) :
    load (some (len, image)) ram plat behaviour mode vectors agent =
      .next (constructed len image ram plat behaviour mode vectors agent t) := by
  rw [load, if_pos h, hc]

/-- A load that gives a state has passed both checks, and gives the constructed one. -/
theorem load_next {s : State} (h : load (some (len, image)) ram plat behaviour mode vectors agent = .next s) :
    ∃ t, len ∈ legalRomLens ∧ classify (image.read Config.headerOffset) = some t ∧
      s = constructed len image ram plat behaviour mode vectors agent t := by
  by_cases hl : len ∈ legalRomLens
  · cases hc : classify (image.read Config.headerOffset) with
    | none => rw [load_of_unknown_header hl hc] at h; cases h
    | some t => rw [load_of_known_header hl hc] at h; cases h; exact ⟨t, hl, rfl, rfl⟩
  · rw [load_of_illegal_length hl] at h; cases h

/-- What construction gives meets the invariant where the image and the byte stores given do. -/
theorem constructed_inv {t : BankingType}
    (hs : (constructed len image ram plat behaviour mode vectors agent t).StoresLegal)
    (hi : (constructed len image ram plat behaviour mode vectors agent t).ImageLegal) :
    (constructed len image ram plat behaviour mode vectors agent t).Inv := by
  have hf : State.reset.FlagNibbleClear := by decide
  have hne : (1 : BitVec 8) ≠ 0 := by decide
  have hle : (1 : BitVec 8).toNat ≤ 0x0F := by decide
  exact ⟨hf, ⟨hne, fun _ => rfl, fun _ => ⟨hle, rfl⟩, fun _ => ⟨rfl, rfl, rfl⟩⟩, hs, hi⟩

end

/-- Settles O15: the constants of R30, read by name. -/
theorem resetValues : Obligations.ResetValues :=
  ⟨rfl, rfl, rfl, rfl, rfl, rfl, rfl, rfl, rfl, rfl, rfl, rfl, rfl⟩

/-- Settles O16: the outcome of each check in turn; the constructed state holds the inputs, and the CPU as it is after reset. -/
theorem loadChecksThenConstructs : Obligations.LoadChecksThenConstructs := by
  intro len image ram plat behaviour mode vectors agent
  rw [← mem_legalRomLens_iff]
  refine ⟨rfl, load_of_illegal_length, fun hl hh => load_of_unknown_header hl (classify_of_gt hh), fun hl hh => ?_⟩
  refine ⟨_, load_of_known_header hl (classify_of_le hh), ?_⟩
  obtain ⟨haf, hbc, hde, hhl, hsp, hpc, hime, hhalted, _⟩ := resetValues
  exact ⟨rfl, rfl, rfl, rfl, rfl, rfl, rfl, rfl, rfl, rfl, rfl, rfl, rfl, haf, hbc, hde, hhl, hsp, hpc, hime, hhalted⟩

/-- Settles O17: the checks of load give the legal image, the inputs the legal stores, the constants of R30 the rest. -/
theorem loadMeetsInvariant : Obligations.LoadMeetsInvariant := by
  intro len image ram plat behaviour mode vectors agent s hi hiIn hr hrIn hp hpIn h
  obtain ⟨t, hl, hc, rfl⟩ := load_next h
  exact constructed_inv ⟨hi, hiIn, hr, hrIn, hp, hpIn⟩ ⟨hl, hc⟩

/-- The state after reset is the construction of the blank cartridge (log 2). -/
theorem reset_eq_constructed :
    State.reset = constructed Config.blankRomLen [] [] [] .flatRam Config.defaultCbMode Config.defaultVectors none .None := rfl

/-- Settles O11: a blank image is a legal one of type None, and empty stores are legal. -/
theorem resetMeetsInvariant : Obligations.ResetMeetsInvariant := by
  unfold Obligations.ResetMeetsInvariant
  rw [reset_eq_constructed]
  exact constructed_inv ⟨rfl, rfl, rfl, rfl, rfl, rfl⟩ ⟨by decide, rfl⟩

/-! ### A pair and its halves (R10, R12) -/

theorem hi8_toNat (w : Word) : (hi8 w).toNat = w.toNat / 0x100 := by
  have hw : w.toNat < 2 ^ 16 := w.isLt
  simp only [hi8, BitVec.extractLsb'_toNat, Nat.shiftRight_eq_div_pow]
  omega

theorem lo8_toNat (w : Word) : (lo8 w).toNat = w.toNat % 0x100 := by
  simp [lo8, BitVec.extractLsb'_toNat]

theorem joinBytes_toNat (hi lo : Byte) : (joinBytes hi lo).toNat = hi.toNat * 0x100 + lo.toNat := by
  have hl : lo.toNat < 2 ^ 8 := lo.isLt
  rw [joinBytes, BitVec.toNat_append, ← Nat.shiftLeft_add_eq_or_of_lt hl, Nat.shiftLeft_eq]

/-- Writing a pair writes its two 8-bit registers, and writing one of them is seen in the pair: they are one storage. -/
theorem halves_share_storage (s : State) (v : Word) (b : Byte) {p : Reg16} {hi lo : Reg8} (h : halves p = [hi, lo]) :
    (s.setR16 p v).getR8 hi = hi8 v ∧ (s.setR16 p v).getR8 lo = lo8 v ∧
    (s.setR8 hi b).getR16 p = (RegisterPair.mk b (s.getR8 lo)).value ∧
    (s.setR8 lo b).getR16 p = (RegisterPair.mk (s.getR8 hi) b).value := by
  cases p <;> cases h <;> exact ⟨rfl, rfl, rfl, rfl⟩

/-- Settles O18: the halves of a value as numbers, then that a pair and its halves share their storage. -/
theorem pairAndHalvesAreOneStorage : Obligations.PairAndHalvesAreOneStorage :=
  ⟨fun p => joinBytes_toNat p.hi p.lo, fun v => ⟨hi8_toNat v, lo8_toNat v, RegisterPair.value_ofWord v⟩,
    fun s v b => ⟨fun p => s.getR16_setR16_same p v, fun _ _ _ h => halves_share_storage s v b h, rfl⟩⟩

end Sys2Proof.Machine

end

/-! ## The control bits: IME and halted (10_state.md R17, R18, R29) -/

section

namespace Sys2Proof.Machine

/-- `s` with its two control bits, IME and halted, changed by `f` and `g`; nothing else. -/
def State.mapControl (f g : Bool → Bool) (s : State) : State := { s with ime := f s.ime, halted := g s.halted }

/-- Change the next state of an outcome, where there is one. -/
def mapNext (u : State → State) : Result → Result
  | .next s => .next (u s)
  | .fault r => .fault r
  | .refused r => .refused r

section

variable (f g : Bool → Bool)

@[simp] theorem mapNext_next (u : State → State) (s : State) : mapNext u (.next s) = .next (u s) := rfl

@[simp] theorem mapNext_fault (u : State → State) (r : Fault) : mapNext u (.fault r) = .fault r := rfl

/-! ### What is read is not the control bits -/

@[simp] theorem State.mapControl_bc (s : State) : (s.mapControl f g).bc = s.bc := rfl

@[simp] theorem State.mapControl_de (s : State) : (s.mapControl f g).de = s.de := rfl

@[simp] theorem State.mapControl_hl (s : State) : (s.mapControl f g).hl = s.hl := rfl

@[simp] theorem State.mapControl_sp (s : State) : (s.mapControl f g).sp = s.sp := rfl

@[simp] theorem State.mapControl_pc (s : State) : (s.mapControl f g).pc = s.pc := rfl

@[simp] theorem State.mapControl_bankingType (s : State) : (s.mapControl f g).bankingType = s.bankingType := rfl

@[simp] theorem State.mapControl_cbMode (s : State) : (s.mapControl f g).cbMode = s.cbMode := rfl

@[simp] theorem State.mapControl_fZ (s : State) : (s.mapControl f g).fZ = s.fZ := rfl

@[simp] theorem State.mapControl_fC (s : State) : (s.mapControl f g).fC = s.fC := rfl

@[simp] theorem State.mapControl_flags (s : State) : (s.mapControl f g).flags = s.flags := rfl

@[simp] theorem State.mapControl_getR8 (s : State) (r : Reg8) : (s.mapControl f g).getR8 r = s.getR8 r := rfl

@[simp] theorem State.mapControl_getR16 (s : State) (p : Reg16) : (s.mapControl f g).getR16 p = s.getR16 p := rfl

@[simp] theorem State.mapControl_getR16s (s : State) (p : Reg16s) : (s.mapControl f g).getR16s p = s.getR16s p := rfl

@[simp] theorem State.mapControl_cond (s : State) (c : Cond) : (s.mapControl f g).cond c = s.cond c := rfl

@[simp] theorem relativeTarget_mapControl (s : State) (e8 : Byte) :
    relativeTarget (s.mapControl f g) e8 = relativeTarget s e8 := rfl

@[simp] theorem busRead_mapControl (s : State) (a : Word) : busRead (s.mapControl f g) a = busRead s a :=
  busRead_congr (s := s) (t := s.mapControl f g) rfl rfl rfl rfl rfl rfl (.inr rfl)

/-! ### The named updates commute with a change of the control bits -/

@[simp] theorem State.setR8_mapControl (s : State) (r : Reg8) (v : Byte) :
    (s.mapControl f g).setR8 r v = (s.setR8 r v).mapControl f g := by cases r <;> rfl

@[simp] theorem State.setR16_mapControl (s : State) (p : Reg16) (v : Word) :
    (s.mapControl f g).setR16 p v = (s.setR16 p v).mapControl f g := by cases p <;> rfl

@[simp] theorem State.setSp_mapControl (s : State) (v : Word) :
    (s.mapControl f g).setSp v = (s.setSp v).mapControl f g := rfl

@[simp] theorem State.setPc_mapControl (s : State) (v : Word) :
    (s.mapControl f g).setPc v = (s.setPc v).mapControl f g := rfl

@[simp] theorem State.setFlags_mapControl (s : State) (x : Flags) :
    (s.mapControl f g).setFlags x = (s.setFlags x).mapControl f g := rfl

@[simp] theorem State.setCost_mapControl (s : State) (n : Nat) :
    (s.mapControl f g).setCost n = (s.setCost n).mapControl f g := rfl

@[simp] theorem State.noteRead_mapControl (s : State) (a : Word) :
    (s.mapControl f g).noteRead a = (s.noteRead a).mapControl f g := rfl

theorem romBankLow_mapControl (s : State) (v : Byte) :
    romBankLow (s.mapControl f g) v = (romBankLow s v).mapControl f g := by
  unfold romBankLow
  rw [State.mapControl_bankingType]
  split <;> rfl

theorem manageBanking_mapControl (s : State) (a : Word) (v : Byte) :
    manageBanking (s.mapControl f g) a v = (manageBanking s a v).mapControl f g := by
  simp only [manageBanking, ramToggle, upperOrRam, modeSelect, romBankLow_mapControl, apply_ite (State.mapControl f g)]
  rfl

@[simp] theorem busWrite_mapControl (s : State) (a : Word) (v : Byte) :
    busWrite (s.mapControl f g) a v = (busWrite s a v).mapControl f g := by
  simp only [busWrite, manageBanking_mapControl, apply_ite (State.mapControl f g)]
  rfl

@[simp] theorem push16_mapControl (s : State) (v : Word) :
    push16 (s.mapControl f g) v = (push16 s v).mapControl f g := by
  simp [push16_eq]

@[simp] theorem memWrite16_mapControl (s : State) (a v : Word) :
    memWrite16 (s.mapControl f g) a v = (memWrite16 s a v).mapControl f g := by
  simp [memWrite16]

@[simp] theorem putOperand_mapControl (s : State) (o : Operand8) (v : Byte) :
    putOperand (s.mapControl f g) o v = (putOperand s o v).mapControl f g := by
  cases o <;> simp [putOperand]

@[simp] theorem applyAlu_mapControl (op : AluOp) (v : Byte) (s : State) :
    applyAlu op v (s.mapControl f g) = (applyAlu op v s).mapControl f g := by
  cases op <;> rfl

end

/-! ### An operation that neither reads nor writes the control bits -/

section

variable {f g : Bool → Bool} {s : State}

theorem withByte_mapControl {a : Word} {k : Byte → State → Result}
    (h : ∀ v t, k v (t.mapControl f g) = mapNext (State.mapControl f g) (k v t)) :
    withByte (s.mapControl f g) a k = mapNext (State.mapControl f g) (withByte s a k) := by
  cases e : busRead s a with
  | ok v => rw [withByte_ok e, withByte_ok ((busRead_mapControl f g s a).trans e), State.noteRead_mapControl, h]
  | error r => rw [withByte_error e, withByte_error ((busRead_mapControl f g s a).trans e), mapNext_fault]

/-- A pop gives the same word whatever the control bits are, and leaves them. -/
theorem pop16_mapControl (f g : Bool → Bool) (s : State) :
    pop16 (s.mapControl f g) = (pop16 s).map (Prod.map id (State.mapControl f g)) := by
  simp only [pop16_eq, busRead_mapControl, State.mapControl_sp, State.noteRead_mapControl, State.setSp_mapControl]
  split
  · rfl
  · split <;> rfl

theorem withPop_mapControl {k : Word → State → Result}
    (h : ∀ v t, k v (t.mapControl f g) = mapNext (State.mapControl f g) (k v t)) :
    withPop (s.mapControl f g) k = mapNext (State.mapControl f g) (withPop s k) := by
  unfold withPop
  rw [pop16_mapControl]
  cases pop16 s with
  | ok p => exact h p.1 p.2
  | error r => rfl

theorem finish_mapControl {t u : State} (h : u = t.mapControl f g) (n : Nat) :
    finish n u = mapNext (State.mapControl f g) (finish n t) := by
  rw [h]; rfl

theorem withOperand_mapControl {o : Operand8} {k : Byte → State → Result}
    (h : ∀ v t, k v (t.mapControl f g) = mapNext (State.mapControl f g) (k v t)) :
    withOperand (s.mapControl f g) o k = mapNext (State.mapControl f g) (withOperand s o k) := by
  cases o with
  | reg r => exact h _ _
  | atHL => exact withByte_mapControl h

theorem withSource_mapControl {src : AluSrc} {k : Byte → State → Result}
    (h : ∀ v t, k v (t.mapControl f g) = mapNext (State.mapControl f g) (k v t)) :
    withSource (s.mapControl f g) src k = mapNext (State.mapControl f g) (withSource s src k) := by
  cases src with
  | reg r => exact h _ _
  | atHL => exact withByte_mapControl h
  | imm d8 => exact h _ _

theorem branchIf_mapControl {taken taken' : Result} (h : taken' = mapNext (State.mapControl f g) taken) (c : Cond) (n : Nat) :
    branchIf c taken' n (s.mapControl f g) = mapNext (State.mapControl f g) (branchIf c taken n s) := by
  unfold branchIf
  rw [State.mapControl_cond]
  split
  · exact h
  · rfl

theorem returnTo_mapControl (n : Nat) :
    returnTo n (s.mapControl f g) = mapNext (State.mapControl f g) (returnTo n s) :=
  withPop_mapControl fun _ _ => rfl

theorem liveOrStub_mapControl {o : Operand8} {live : State → Result}
    (h : live (s.mapControl f g) = mapNext (State.mapControl f g) (live s)) :
    liveOrStub o live (s.mapControl f g) = mapNext (State.mapControl f g) (liveOrStub o live s) := by
  unfold liveOrStub
  rw [State.mapControl_cbMode]
  split
  · exact h
  · rfl

theorem rotateOperand_mapControl (op : RotOp) (o : Operand8) :
    rotateOperand op o (s.mapControl f g) = mapNext (State.mapControl f g) (rotateOperand op o s) :=
  withOperand_mapControl fun _ _ => finish_mapControl (by simp) _

theorem liveBit_mapControl (b : Nat) (o : Operand8) :
    liveBit b o (s.mapControl f g) = mapNext (State.mapControl f g) (liveBit b o s) :=
  withOperand_mapControl fun _ _ => finish_mapControl (by simp) _

theorem liveRes_mapControl (b : Nat) (o : Operand8) :
    liveRes b o (s.mapControl f g) = mapNext (State.mapControl f g) (liveRes b o s) :=
  withOperand_mapControl fun _ _ => finish_mapControl (by simp) _

theorem liveSet_mapControl (b : Nat) (o : Operand8) :
    liveSet b o (s.mapControl f g) = mapNext (State.mapControl f g) (liveSet b o s) :=
  withOperand_mapControl fun _ _ => finish_mapControl (by simp) _

theorem runExtended_mapControl (x : Byte) :
    runExtended x (s.mapControl f g) = mapNext (State.mapControl f g) (runExtended x s) := by
  simp only [runExtended]
  split
  · split
    · exact rotateOperand_mapControl _ _
    · exact liveOrStub_mapControl (rotateOperand_mapControl _ _)
  · exact liveOrStub_mapControl (liveBit_mapControl _ _)
  · exact liveOrStub_mapControl (liveRes_mapControl _ _)
  · exact liveOrStub_mapControl (liveSet_mapControl _ _)

/-- An instruction does the same whatever the control bits are, and leaves them: HALT reads no bit but sets halted, DI, EI and RETI set IME,
so each of these needs that its own bit is not changed beforehand. -/
theorem exec_mapControl (i : Instr) (s : State) (hg : i = .halt → g = id) (hf : i = .di ∨ i = .ei ∨ i = .reti → f = id) :
    exec i (s.mapControl f g) = mapNext (State.mapControl f g) (exec i s) := by
  cases family i with
  | unassigned op => rfl
  | nop => rfl
  | halt => rw [hg rfl]; rfl
  | di => rw [hf (.inl rfl)]; rfl
  | ei => rw [hf (.inr (.inl rfl))]; rfl
  | reti => rw [hf (.inr (.inr rfl))]; exact withPop_mapControl fun _ _ => rfl
  | prefixCB x => exact runExtended_mapControl x
  | ldReg d r => simp only [exec_ldReg]; exact finish_mapControl (by simp) _
  | ldRegImm d d8 => simp only [exec_ldRegImm]; exact finish_mapControl (by simp) _
  | ldRegAtHL d => simp only [exec_ldRegAtHL]; exact withByte_mapControl fun _ _ => finish_mapControl (by simp) _
  | ldAtHLReg r => simp only [exec_ldAtHLReg]; exact finish_mapControl (by simp) _
  | ld_atHL_d8 _ | ld_atBC_A | ld_atDE_A | ld_atC_A | ldh_atA8_A _ | ld_atA16_A _ | ld_atHLinc_A | ld_atHLdec_A
  | ld_atA16_SP _ => exact finish_mapControl (by simp) _
  | ld_A_atBC | ld_A_atDE | ld_A_atC | ldh_A_atA8 _ | ld_A_atA16 _ | ld_A_atHLinc | ld_A_atHLdec | inc_atHL | dec_atHL =>
    exact withByte_mapControl fun _ _ => finish_mapControl (by simp) _
  | ldPairImm p d16 => simp only [exec_ldPairImm]; exact finish_mapControl (by simp) _
  | ld_SP_HL | ld_HL_SPe8 _ | add_SP_e8 _ => exact finish_mapControl (by simp) _
  | push p => simp only [exec_push]; exact finish_mapControl (by simp) _
  | pop p =>
    cases p with
    | BC | DE | HL | AF => exact withPop_mapControl fun _ _ => rfl
  | incReg r => simp only [exec_incReg]; exact finish_mapControl (by simp) _
  | decReg r => simp only [exec_decReg]; exact finish_mapControl (by simp) _
  | incPair p => simp only [exec_incPair]; exact finish_mapControl (by simp) _
  | decPair p => simp only [exec_decPair]; exact finish_mapControl (by simp) _
  | jr_e8 _ | jp_a16 _ | jp_HL | call_a16 _ => exact finish_mapControl (by simp) _
  | jrIf c e8 => simp only [exec_jrIf]; exact branchIf_mapControl (finish_mapControl (by simp) _) c _
  | jpIf c a16 => simp only [exec_jpIf]; exact branchIf_mapControl (finish_mapControl (by simp) _) c _
  | callIf c a16 => simp only [exec_callIf]; exact branchIf_mapControl (finish_mapControl (by simp) _) c _
  | rst n => simp only [exec_rst]; exact finish_mapControl (by simp) _
  | ret => exact returnTo_mapControl _
  | retIf c => simp only [exec_retIf]; exact branchIf_mapControl (returnTo_mapControl _) c _
  | alu op src => simp only [exec_alu]; exact withSource_mapControl fun _ _ => finish_mapControl (by simp) _
  | addHL p => simp only [exec_addHL]; exact finish_mapControl (by simp) _
  | daa | rlca | rla | rrca | rra | cpl | scf | ccf => exact finish_mapControl (by simp) _
  | rot op o =>
    simp only [exec_rot]
    split
    · exact rotateOperand_mapControl op o
    · exact liveOrStub_mapControl (rotateOperand_mapControl op o)
  | bitOp b o => simp only [exec_bitOp]; exact liveOrStub_mapControl (liveBit_mapControl _ o)
  | resOp b o => simp only [exec_resOp]; exact liveOrStub_mapControl (liveRes_mapControl _ o)
  | setOp b o => simp only [exec_setOp]; exact liveOrStub_mapControl (liveSet_mapControl _ o)

end

/-! ### Reading neither bit is also leaving it -/

theorem exec_setIme {i : Instr} (hi : ¬(i = .di ∨ i = .ei ∨ i = .reti)) (s : State) (b : Bool) :
    exec i (s.setIme b) = mapNext (·.setIme b) (exec i s) :=
  exec_mapControl (f := fun _ => b) (g := id) i s (fun _ => rfl) fun h => absurd h hi

theorem exec_setHalted {i : Instr} (hi : i ≠ .halt) (s : State) (b : Bool) :
    exec i (s.setHalted b) = mapNext (·.setHalted b) (exec i s) :=
  exec_mapControl (f := id) (g := fun _ => b) i s (fun h => absurd h hi) fun _ => rfl

/-- Only DI, EI and RETI write IME: any other instruction, run from IME as it is, gives IME as it was. -/
theorem exec_ime {i : Instr} (hi : ¬(i = .di ∨ i = .ei ∨ i = .reti)) {s t : State} (h : exec i s = .next t) :
    t.ime = s.ime := by
  have hset : exec i s = mapNext (·.setIme s.ime) (exec i s) := exec_setIme hi s s.ime
  rw [h, mapNext_next] at hset
  injection hset with hset
  rw [hset, State.setIme_ime]

/-- Only HALT writes halted. -/
theorem exec_halted {i : Instr} (hi : i ≠ .halt) {s t : State} (h : exec i s = .next t) : t.halted = s.halted := by
  have hset : exec i s = mapNext (·.setHalted s.halted) (exec i s) := exec_setHalted hi s s.halted
  rw [h, mapNext_next] at hset
  injection hset with hset
  rw [hset, State.setHalted_halted]

theorem exec_halt (s : State) : exec .halt s = .next ((s.setHalted true).setCost 4) := rfl

/-- Taking the CPU's turn leaves the machine as it was but for the turns left (R250). -/
theorem CpuTurn.eq {s s' : State} (h : CpuTurn s s') : ∃ agent, s' = { s with intAgent := agent } := by
  obtain ⟨agent, e⟩ := takeTurn_eq s
  exact ⟨agent, (congrArg Prod.snd h).symm.trans e⟩

/-- A halted machine whose CPU has the turn stalls (R80, R285). -/
theorem step_of_halted {s s' : State} (hc : CpuTurn s s') (hh : s'.halted = true) : step s = .next (s'.setCost 4) := by
  unfold CpuTurn at hc
  rw [step_cpu (by rw [hc]), hc, cpuStep, if_pos hh, stall, finish_eq]

/-- Settles O55: no instruction but the writers reads or writes a control bit (`exec_mapControl`); HALT sets halted; a halted machine stalls. -/
theorem controlBitsAreWrittenByFourAndReadByNone : Obligations.ControlBitsAreWrittenByFourAndReadByNone := by
  refine ⟨fun i s => ⟨fun t h => ⟨fun hne => ?_, fun hne => ?_⟩, fun hdi hei hreti b => ?_, fun hh b => ?_⟩,
    fun s s' t hc h hh => ?_⟩
  · by_cases hi : i = .halt
    · subst hi
      rw [exec_halt] at h
      cases h
      exact ⟨rfl, rfl⟩
    · exact absurd (exec_halted hi h) hne
  · by_contra hi
    exact hne (exec_ime hi h)
  · have hi : ¬(i = .di ∨ i = .ei ∨ i = .reti) := by simp [hdi, hei, hreti]
    exact ⟨fun t h => by rw [exec_setIme hi, h, mapNext_next], fun r h => by rw [exec_setIme hi, h, mapNext_fault]⟩
  · exact ⟨fun t h => by rw [exec_setHalted hh, h, mapNext_next], fun r h => by rw [exec_setHalted hh, h, mapNext_fault]⟩
  · obtain ⟨agent, rfl⟩ := hc.eq
    rw [step_of_halted hc hh] at h
    cases h
    exact ⟨hh, rfl⟩

end Sys2Proof.Machine

end

/-! ## Memory: the bus by region, the bank controller, and the stack (20_memory.md R41 to R60, R100, R101) -/

section

namespace Sys2Proof.Machine

/-! ### What a bus read gives in each region (R41, R48) -/

theorem romAt_of_lt {s : State} {off : Nat} (h : off < s.romLen) : romAt s off = .ok (s.rom.read off) := if_pos h

theorem romAt_of_le {s : State} {off : Nat} (h : s.romLen ≤ off) : romAt s off = .error (.romIndexOutOfRange off) :=
  if_neg (Nat.not_lt.2 h)

theorem busRead_romFixed {a : Word} (h : a.toNat < 0x4000) (s : State) : busRead s a = romAt s a.toNat := if_pos h

theorem busRead_romWindow {a : Word} (h1 : 0x4000 ≤ a.toNat) (h2 : a.toNat < 0x8000) (s : State) :
    busRead s a = romAt s (romWindowOffset s a) := by
  rw [busRead, if_neg (by omega), if_pos h2]

theorem busRead_ramWindow {a : Word} (h1 : 0xA000 ≤ a.toNat) (h2 : a.toNat < 0xC000) (s : State) :
    busRead s a = .ok (s.ramBanks.read (ramOffset s a)) := by
  rw [busRead, if_neg (by omega), if_neg (by omega), if_neg (by omega), if_pos h2]

/-- The platform region is the two ranges R41 and R42 send to the platform (R47). -/
theorem inPlatform_iff (a : Word) :
    inPlatform a.toNat = true ↔ 0x8000 ≤ a.toNat ∧ a.toNat < 0xA000 ∨ 0xC000 ≤ a.toNat := by
  have ha : a.toNat < 0x10000 := a.isLt
  simp only [inPlatform, Bool.or_eq_true, Bool.and_eq_true, decide_eq_true_eq]
  omega

/-- Settles O19: one rule per region, the two ROM regions with the check of `RomAt`. -/
theorem busReadByRegion : Obligations.BusReadByRegion := by
  intro s a
  refine ⟨fun h hin => ?_, fun h hout => ?_, fun h1 h2 hin => ?_, fun h1 h2 hout => ?_, fun h1 h2 => ?_, fun h1 h2 => ?_,
    fun h => ?_, fun h => platRead_flatRam h a⟩
  · rw [busRead_romFixed h, romAt_of_lt hin]
  · rw [busRead_romFixed h, romAt_of_le hout]
  · exact (busRead_romWindow h1 h2 s).trans (romAt_of_lt hin)
  · exact (busRead_romWindow h1 h2 s).trans (romAt_of_le hout)
  · exact busRead_inPlatform ((inPlatform_iff a).2 (.inl ⟨h1, h2⟩)) s
  · exact busRead_ramWindow h1 h2 s
  · exact busRead_inPlatform ((inPlatform_iff a).2 (.inr h)) s

/-! ### What a bus write does in each region (R42, R46) -/

theorem busWrite_control {a : Word} (h : a.toNat < 0x8000) (s : State) (v : Byte) :
    busWrite s a v = manageBanking s a v := if_pos h

theorem busWrite_ramWindow {a : Word} (h1 : 0xA000 ≤ a.toNat) (h2 : a.toNat < 0xC000) (s : State) (v : Byte) :
    busWrite s a v = if s.ramWriteEnabled then { s with ramBanks := s.ramBanks.write (ramOffset s a) v } else s := by
  rw [busWrite, if_neg (by omega), if_neg (by omega), if_pos h2]

theorem manageBanking_onlyBanksDiffer (s : State) (a : Word) (v : Byte) : OnlyBanksDiffer s (manageBanking s a v) := by
  obtain ⟨_, _, _, _, h⟩ := manageBanking_eq s a v
  rw [h, OnlyBanksDiffer]

/-- Settles O20: one rule per region; a control write changes bank registers only. -/
theorem busWriteByRegion : Obligations.BusWriteByRegion := by
  intro s a v
  refine ⟨fun h => ?_, fun h1 h2 => ?_, fun h1 h2 hen => ?_, fun h1 h2 hdis => ?_, fun h => ?_, fun h => platWrite_flatRam h a v⟩
  · rw [busWrite_control h]
    exact ⟨rfl, manageBanking_onlyBanksDiffer s a v⟩
  · exact busWrite_inPlatform ((inPlatform_iff a).2 (.inl ⟨h1, h2⟩)) s v
  · exact (busWrite_ramWindow h1 h2 s v).trans (if_pos hen)
  · rw [busWrite_ramWindow h1 h2, hdis, if_neg Bool.false_ne_true]
  · exact busWrite_inPlatform ((inPlatform_iff a).2 (.inr h)) s v

/-! ### A byte that is kept (R60) -/

/-- Nothing below 0x8000 keeps what is written to it. -/
theorem Holds.le_toNat {s : State} {a : Word} (h : Holds s a) : 0x8000 ≤ a.toNat := by
  rcases h with ⟨hin, _⟩ | ⟨hle, _, _⟩
  · rw [inPlatform_iff] at hin
    omega
  · omega

/-- No oracle sees an access of an address that keeps what is written to it (R47). -/
theorem Holds.flatRam_or_outside {s : State} {a : Word} (h : Holds s a) :
    s.platBehaviour = .flatRam ∨ inPlatform a.toNat = false := by
  rcases h with ⟨_, hflat⟩ | ⟨hle, hlt, _⟩
  · exact .inl hflat
  · exact .inr (Bool.eq_false_iff.2 fun hin => by rw [inPlatform_iff] at hin; omega)

/-- Flat RAM stays flat RAM under a write that is kept, and an oracle does not see it (R47). -/
theorem Holds.busWrite_platBehaviour {s : State} {a : Word} (h : Holds s a) (v : Byte) :
    (busWrite s a v).platBehaviour = s.platBehaviour := by
  rw [Machine.busWrite_platBehaviour]
  rcases h.flatRam_or_outside with hflat | hout
  · rw [hflat, PlatBehaviour.note_flatRam]
  · exact PlatBehaviour.note_outside (x := .write a v) hout _

theorem Holds.noteRead_eq {s : State} {a : Word} (h : Holds s a) : s.noteRead a = s :=
  State.noteRead_eq_self h.flatRam_or_outside

/-- Whether an address keeps what is written depends on the platform's behaviour and the RAM gate only. -/
theorem Holds.congr {s t : State} {a : Word} (h : Holds s a) (hp : t.platBehaviour = s.platBehaviour)
    (he : t.ramWriteEnabled = s.ramWriteEnabled) : Holds t a := by
  rw [Holds, hp, he]
  exact h

theorem Holds.setSp {s : State} {a : Word} (h : Holds s a) (v : Word) : Holds (s.setSp v) a := h

/-- A write that is kept leaves the RAM gate and the platform's behaviour, so every address keeps what it kept before. -/
theorem Holds.busWrite {s : State} {a b : Word} (hb : Holds s b) (ha : Holds s a) (v : Byte) : Holds (busWrite s a v) b := by
  obtain ⟨_, _, hbanks, _⟩ := KeepsMemory.busWrite s a v
  obtain ⟨_, _, _, he, _⟩ := hbanks (by simpa using ha.le_toNat)
  exact hb.congr (ha.busWrite_platBehaviour v) he

theorem busWrite_plat_wf {s : State} (h : s.plat.wf = true) (a : Word) (v : Byte) : (busWrite s a v).plat.wf = true := by
  obtain ⟨_, _, _, _, hm⟩ := manageBanking_eq s a v
  rcases busWrite_cases s a v with ⟨_, e⟩ | ⟨_, e⟩ | ⟨_, _, _, e⟩ | ⟨_, _, _, e⟩
  · rw [e, hm]; exact h
  · rcases platWrite_plat s a v with ⟨_, hp⟩ | ⟨_, hp⟩
    · rw [e, hp]; exact Memory.wf_write h _ v
    · rw [e, hp]; exact h
  · rw [e]; exact h
  · rw [e]; exact h

theorem busWrite_ramBanks_wf {s : State} (h : s.ramBanks.wf = true) (a : Word) (v : Byte) :
    (busWrite s a v).ramBanks.wf = true := by
  obtain ⟨_, _, _, _, hm⟩ := manageBanking_eq s a v
  rcases busWrite_cases s a v with ⟨_, e⟩ | ⟨_, e⟩ | ⟨_, _, _, e⟩ | ⟨_, _, _, e⟩
  · rw [e, hm]; exact h
  · rw [e]; exact h
  · rw [e]; exact Memory.wf_write h _ v
  · rw [e]; exact h

theorem busRead_busWrite_same {s : State} (hp : s.plat.wf = true) (hr : s.ramBanks.wf = true) {a : Word} (h : Holds s a)
    (v : Byte) : busRead (busWrite s a v) a = .ok v := by
  rcases h with ⟨hin, hflat⟩ | ⟨hle, hlt, hen⟩
  · rw [busRead_inPlatform hin, platRead_flatRam (by simp [hflat]), busWrite_inPlatform hin, platWrite_flatRam hflat]
    exact congrArg Except.ok (Memory.read_write_same hp _ v)
  · rw [busWrite_ramWindow hle hlt, if_pos hen, busRead_ramWindow hle hlt]
    exact congrArg Except.ok (Memory.read_write_same hr _ v)

theorem busRead_busWrite_ne {s : State} {a b : Word} (h : Holds s a) (hne : b ≠ a) (v : Byte) :
    busRead (busWrite s a v) b = busRead s b := by
  obtain ⟨_, _, hbanks, _⟩ := KeepsMemory.busWrite s a v
  obtain ⟨_, _, _, _, hread⟩ := hbanks (by simpa using h.le_toNat)
  exact hread b (by simpa using hne) (.inr (h.busWrite_platBehaviour v))

/-- Settles O21: the store that holds the address is canonical; elsewhere the frame of a bus write. -/
theorem storedByteIsReadBack : Obligations.StoredByteIsReadBack :=
  fun _ _ v hp hr h => ⟨busRead_busWrite_same hp hr h v, fun _ hne => busRead_busWrite_ne h hne v⟩

/-! ### Which operation of the bank controller a control write is (R49, R54) -/

theorem manageBanking_of_none {s : State} (h : s.bankingType = .None) (a : Word) (v : Byte) : manageBanking s a v = s := if_pos h

section

variable {s : State} {a : Word}

theorem manageBanking_ramToggle (ht : s.bankingType ≠ .None) (h : a.toNat < 0x2000) (v : Byte) :
    manageBanking s a v = ramToggle s a v := by
  rw [manageBanking, if_neg ht, if_pos h]

theorem manageBanking_romBankLow (ht : s.bankingType ≠ .None) (h1 : 0x2000 ≤ a.toNat) (h2 : a.toNat < 0x4000) (v : Byte) :
    manageBanking s a v = romBankLow s v := by
  rw [manageBanking, if_neg ht, if_neg (by omega), if_pos h2]

theorem manageBanking_upperOrRam (ht : s.bankingType = .MBC1) (h1 : 0x4000 ≤ a.toNat) (h2 : a.toNat < 0x6000) (v : Byte) :
    manageBanking s a v = upperOrRam s v := by
  rw [manageBanking, if_neg (by simp [ht]), if_neg (by omega), if_neg (by omega), if_pos h2, if_pos ht]

theorem manageBanking_modeSelect (ht : s.bankingType = .MBC1) (h : 0x6000 ≤ a.toNat) (v : Byte) :
    manageBanking s a v = modeSelect s v := by
  rw [manageBanking, if_neg (by simp [ht]), if_neg (by omega), if_neg (by omega), if_neg (by omega), if_pos ht]

/-- Only MBC1 listens above 0x4000 (R52, R53). -/
theorem manageBanking_of_ne_MBC1 (ht : s.bankingType ≠ .MBC1) (h : 0x4000 ≤ a.toNat) (v : Byte) : manageBanking s a v = s := by
  rw [manageBanking, if_neg (show ¬a.toNat < 0x2000 by omega), if_neg (show ¬a.toNat < 0x4000 by omega)]
  simp only [if_neg ht, ite_self]

end

/-! ### The bank controller on numbers (R50 to R55) -/

theorem bitOf_toNat_eq_one_iff {w : Nat} (x : BitVec w) (b : Nat) : bitOf x.toNat b = 1 ↔ x.getLsbD b = true := by
  rw [BitVec.getLsbD, Nat.testBit_eq_decide_div_mod_eq, decide_eq_true_eq, bitOf]

/-- The low bits of a byte, compared as numbers. -/
theorem extractLsb'_low_eq_iff (v : Byte) {n : Nat} (x : BitVec n) : v.extractLsb' 0 n = x ↔ v.toNat % 2 ^ n = x.toNat := by
  rw [BitVec.toNat_eq, BitVec.extractLsb'_toNat, Nat.shiftRight_zero]

/-- `Bump` on numbers (R55). -/
theorem bumped_eq_ofNat (b : BitVec 8) : bumped b = BitVec.ofNat 8 (notZero b.toNat) := by
  unfold bumped notZero
  by_cases h : b = 0
  · rw [if_pos h, if_pos (by simp [h])]
    rfl
  · rw [if_neg h, if_neg (show ¬b.toNat = 0 from fun e => h (BitVec.eq_of_toNat_eq e)), BitVec.ofNat_toNat, BitVec.setWidth_eq]

/-- Bits 7 to 5 of one byte over bits 4 to 0 of another, as a number. -/
theorem upper_append_low_toNat (u l : Byte) :
    (u.extractLsb' 5 3 ++ l.extractLsb' 0 5).toNat = u.toNat / 0x20 * 0x20 + l.toNat % 0x20 := by
  have hu : u.toNat < 2 ^ 8 := u.isLt
  have hl : (l.extractLsb' 0 5).toNat < 2 ^ 5 := (l.extractLsb' 0 5).isLt
  rw [BitVec.toNat_append, ← Nat.shiftLeft_add_eq_or_of_lt hl, Nat.shiftLeft_eq]
  simp only [BitVec.extractLsb'_toNat, Nat.shiftRight_eq_div_pow]
  omega

/-- The low nibble of a byte as a bank number. -/
theorem lowNibble_setWidth_toNat (v : Byte) : ((v.extractLsb' 0 4).setWidth 8).toNat = v.toNat % 0x10 := by
  simp only [BitVec.toNat_setWidth, BitVec.extractLsb'_toNat, Nat.shiftRight_zero]
  omega

theorem romBankLow_of_MBC2 {s : State} (h : s.bankingType = .MBC2) (v : Byte) :
    romBankLow s v = { s with currentRomBank := bumped ((v.extractLsb' 0 4).setWidth 8) } := by
  simp only [romBankLow, h]

theorem romBankLow_of_MBC1 {s : State} (h : s.bankingType = .MBC1) (v : Byte) :
    romBankLow s v = { s with currentRomBank := bumped (s.currentRomBank.extractLsb' 5 3 ++ v.extractLsb' 0 5) } := by
  simp only [romBankLow, h]

theorem ramToggle_of_bit3 {s : State} {a : Word} (ht : s.bankingType = .MBC2) (ha : bitOf a.toNat 3 = 1) (v : Byte) :
    ramToggle s a v = s :=
  if_pos ⟨ht, (bitOf_toNat_eq_one_iff a 3).1 ha⟩

/-- Where address bit 3 does not mask it, the toggle is the low nibble's (R50). -/
theorem ramToggle_of_not_masked {s : State} {a : Word} (h : s.bankingType = .MBC1 ∨ s.bankingType = .MBC2 ∧ bitOf a.toNat 3 = 0)
    (v : Byte) :
    ramToggle s a v = if v.toNat % 0x10 = 0xA then { s with ramWriteEnabled := true }
      else if v.toNat % 0x10 = 0x0 then { s with ramWriteEnabled := false } else s := by
  have hmask : ¬(s.bankingType = .MBC2 ∧ a.getLsbD 3 = true) := by
    rw [← bitOf_toNat_eq_one_iff]
    rintro ⟨ht, ha⟩
    rcases h with h | ⟨_, h⟩
    · simp [ht] at h
    · omega
  rw [ramToggle, if_neg hmask]
  simp only [extractLsb'_low_eq_iff]
  rfl

/-- Settles O22: type None and a masked address change nothing; otherwise the low nibble decides. -/
theorem ramToggleFollowsLowNibble : Obligations.RamToggleFollowsLowNibble := by
  intro s a v ha
  refine ⟨fun ht => manageBanking_of_none ht a v, fun ht hb => ?_, fun h => ?_⟩
  · rw [manageBanking_ramToggle (by simp [ht]) ha, ramToggle_of_bit3 ht hb]
  · have ht : s.bankingType ≠ .None := by
      rcases h with ht | ⟨ht, _⟩ <;> simp [ht]
    rw [manageBanking_ramToggle ht ha, ramToggle_of_not_masked h]
    refine ⟨fun hA => if_pos hA, fun h0 => ?_, fun hA h0 => ?_⟩
    · rw [if_neg (by omega), if_pos h0]
    · rw [if_neg hA, if_neg h0]

/-- Settles O23: the bank's bits as numbers, bumped. -/
theorem romBankLowBits : Obligations.RomBankLowBits := by
  intro s a v h1 h2
  refine ⟨fun ht => manageBanking_of_none ht a v, fun ht => ?_, fun ht => ?_⟩
  · rw [manageBanking_romBankLow (by simp [ht]) h1 h2, romBankLow_of_MBC2 ht, bumped_eq_ofNat, lowNibble_setWidth_toNat]
  · rw [manageBanking_romBankLow (by simp [ht]) h1 h2, romBankLow_of_MBC1 ht, bumped_eq_ofNat, upper_append_low_toNat]

/-- Settles O24: the mode says which register the byte goes to. -/
theorem upperBitsOrRamBank : Obligations.UpperBitsOrRamBank := by
  intro s a v h1 h2
  refine ⟨fun ht hm => ?_, fun ht hm => ?_, fun ht => manageBanking_of_ne_MBC1 ht h1 v⟩
  · rw [manageBanking_upperOrRam ht h1 h2, upperOrRam, if_pos hm, bumped_eq_ofNat, upper_append_low_toNat]
  · have hbank : v.extractLsb' 0 2 = BitVec.ofNat 2 (v.toNat % 4) :=
      (extractLsb'_low_eq_iff v _).2 (by simp)
    rw [manageBanking_upperOrRam ht h1 h2, upperOrRam, hm, if_neg Bool.false_ne_true, hbank]

/-- Settles O25: bit 0 of the byte selects the mode, with MBC1 only. -/
theorem modeSelectAndNoController : Obligations.ModeSelectAndNoController := by
  intro s a v
  have hbit : v.toNat % 2 = 1 ↔ v.getLsbD 0 = true := by simpa [bitOf] using bitOf_toNat_eq_one_iff v 0
  refine ⟨fun ht => manageBanking_of_none ht a v, fun h1 _ => ⟨fun ht h0 => ?_, fun ht h1' => ?_, fun ht => ?_⟩⟩
  · rw [manageBanking_modeSelect ht h1, modeSelect, if_neg (by rw [← hbit]; omega)]
  · rw [manageBanking_modeSelect ht h1, modeSelect, if_pos (hbit.1 h1')]
  · exact manageBanking_of_ne_MBC1 (by simp [ht]) (by omega) v

/-! ### The stack (R100, R101) -/

/-- Writing SP leaves the bus as it was. -/
theorem SameBus.setSp (s : State) (v : Word) : SameBus (s.setSp v) s := SameBus.refl s

/-- A push stores two bytes below SP and nothing else (R100). Where the first is a control write the RAM bank may change, but then the second lies
outside the RAM window. -/
theorem push16_keepsMemory (s : State) (v : Word) : KeepsMemory [s.sp.value - 1, s.sp.value - 1 - 1] s (push16 s v) := by
  rw [push16_eq]
  generalize s.sp.value - 1 = a
  have hfirst : KeepsMemory [a] s ((busWrite (s.setSp a) a (hi8 v)).setSp (a - 1)) :=
    (KeepsMemory.busWrite (s.setSp a) a (hi8 v)).sameBus (SameBus.setSp _ (a - 1)) rfl rfl rfl
  refine hfirst.two (KeepsMemory.busWrite _ (a - 1) (lo8 v)) (fun h => ?_) ?_
  · simp only [State.setSp_platBehaviour, busWrite_platBehaviour] at h ⊢
    exact PlatBehaviour.note_of_note_note h
  · by_cases ha : 0x8000 ≤ a.toNat
    · exact .inl (busWrite_currentRamBank_of_le (s := s.setSp a) ha (hi8 v))
    · refine .inr ?_
      bv_omega

/-- Where both bytes of a push are kept, they are read back after it, and the two addresses keep what is written still. -/
theorem push16_of_holds {s : State} (hp : s.plat.wf = true) (hr : s.ramBanks.wf = true)
    (ha : Holds s (s.sp.value - 1)) (hb : Holds s (s.sp.value - 1 - 1)) (v : Word) :
    busRead (push16 s v) (s.sp.value - 1) = .ok (hi8 v) ∧ busRead (push16 s v) (s.sp.value - 1 - 1) = .ok (lo8 v) ∧
    Holds (push16 s v) (s.sp.value - 1) ∧ Holds (push16 s v) (s.sp.value - 1 - 1) := by
  rw [push16_eq]
  generalize s.sp.value - 1 = a at ha hb ⊢
  have hne : a ≠ a - 1 := by bv_omega
  have ha0 := ha.setSp a
  have ha1 : Holds ((busWrite (s.setSp a) a (hi8 v)).setSp (a - 1)) a :=
    (ha0.busWrite ha0 (hi8 v)).setSp (a - 1)
  have hb1 : Holds ((busWrite (s.setSp a) a (hi8 v)).setSp (a - 1)) (a - 1) :=
    ((hb.setSp a).busWrite ha0 (hi8 v)).setSp (a - 1)
  refine ⟨?_, ?_, ha1.busWrite hb1 (lo8 v), hb1.busWrite hb1 (lo8 v)⟩
  · rw [busRead_busWrite_ne hb1 hne, busRead_setSp]
    exact busRead_busWrite_same (s := s.setSp a) hp hr ha0 _
  · refine busRead_busWrite_same ?_ ?_ hb1 _
    · exact busWrite_plat_wf (s := s.setSp a) hp a (hi8 v)
    · exact busWrite_ramBanks_wf (s := s.setSp a) hr a (hi8 v)

/-- A pop of two bytes that are kept, and so seen by no oracle, changes SP only (R101). -/
theorem pop16_of_holds {s : State} {lo hi : Byte} (hlo : busRead s s.sp.value = .ok lo) (hhi : busRead s (s.sp.value + 1) = .ok hi)
    (ha : Holds s s.sp.value) (hb : Holds s (s.sp.value + 1)) :
    pop16 s = .ok (joinBytes hi lo, s.setSp (s.sp.value + 1 + 1)) := by
  rw [pop16_eq, ha.noteRead_eq, hb.noteRead_eq, hlo, hhi]

theorem pop16_push16 {s : State} (hp : s.plat.wf = true) (hr : s.ramBanks.wf = true)
    (ha : Holds s (s.sp.value - 1)) (hb : Holds s (s.sp.value - 1 - 1)) (v : Word) :
    pop16 (push16 s v) = .ok (v, (push16 s v).setSp s.sp.value) := by
  obtain ⟨rhi, rlo, hhi, hlo⟩ := push16_of_holds hp hr ha hb v
  have hsp : (push16 s v).sp.value = s.sp.value - 1 - 1 := by simp
  have hup : (push16 s v).sp.value + 1 = s.sp.value - 1 := by rw [hsp, BitVec.sub_add_cancel]
  rw [pop16_of_holds (hsp ▸ rlo) (hup ▸ rhi) (hsp ▸ hlo) (hup ▸ hhi), hup, BitVec.sub_add_cancel, joinBytes_hi8_lo8]

/-- Settles O26: the pop reads back both bytes of the push (`pop16_push16`), and the frame is the push's: no oracle sees these accesses. -/
theorem popAfterPushRestores : Obligations.PopAfterPushRestores := by
  intro s v hp hr ha hb
  have h2 : s.sp.value - 2 = s.sp.value - 1 - 1 := by bv_omega
  rw [h2] at hb ⊢
  obtain ⟨rhi, rlo, hhi, hlo⟩ := push16_of_holds hp hr ha hb v
  have hsp : ((push16 s v).setSp s.sp.value).sp = s.sp := RegisterPair.ofWord_value s.sp
  refine ⟨_, pop16_push16 hp hr ha hb v, hsp, by rw [busRead_setSp, rhi], by rw [busRead_setSp, rlo], ?_⟩
  have hseen : (push16 s v).platBehaviour = 
      (((push16 s v).noteRead (s.sp.value - 1 - 1)).noteRead (s.sp.value - 1)).platBehaviour := by
    rw [hlo.noteRead_eq, hhi.noteRead_eq]
  refine ⟨by simp, fun _ => hsp, by simp, by simp, by simp, by simp, by simp, by simp, by simp, by simp, ?_,
    (push16_keepsMemory s v).sameBus (SameBus.setSp _ _) rfl rfl rfl⟩
  rw [State.setSp_platBehaviour, hseen]
  simp

end Sys2Proof.Machine

end

/-! ## Encoding: the decoder and the encoder (30_encoding.md R82 to R94) -/

section

namespace Sys2Proof

/-! ### An opcode byte and its fields (R83 to R87, R89, R220) -/

/-- The opcode byte of three fields: bits [7:6], [5:3] and [2:0]. -/
def opcodeOf (x : BitVec 2) (y z : Oct) : Byte := x ++ (BitVec.ofNat 3 y.toNat ++ BitVec.ofNat 3 z.toNat)

theorem Oct.ofNat_toNat_ofBits (x : BitVec 3) : BitVec.ofNat 3 (Oct.ofBits x).toNat = x := by
  revert x; decide

@[simp] theorem Oct.ofBits_ofNat_toNat (y : Oct) : Oct.ofBits (BitVec.ofNat 3 y.toNat) = y := by cases y <;> rfl

@[simp] theorem fieldX_opcodeOf (x : BitVec 2) (y z : Oct) : fieldX (opcodeOf x y z) = x :=
  BitVec.extractLsb'_append_eq_left

@[simp] theorem fieldY_opcodeOf (x : BitVec 2) (y z : Oct) : fieldY (opcodeOf x y z) = y := by
  rw [fieldY, opcodeOf, BitVec.extractLsb'_append_eq_of_add_le (by decide), BitVec.extractLsb'_append_eq_left,
    Oct.ofBits_ofNat_toNat]

@[simp] theorem fieldZ_opcodeOf (x : BitVec 2) (y z : Oct) : fieldZ (opcodeOf x y z) = z := by
  rw [fieldZ, opcodeOf, BitVec.extractLsb'_append_eq_of_add_le (by decide), BitVec.extractLsb'_append_eq_right,
    Oct.ofBits_ofNat_toNat]

/-- A byte is the opcode byte of its own fields. -/
theorem opcodeOf_fields (op : Byte) : opcodeOf (fieldX op) (fieldY op) (fieldZ op) = op := by
  have hyz : op.extractLsb' 3 3 ++ op.extractLsb' 0 3 = op.extractLsb' 0 6 :=
    BitVec.extractLsb'_append_extractLsb'_eq_extractLsb' rfl
  have hxyz : op.extractLsb' 6 2 ++ op.extractLsb' 0 6 = op.extractLsb' 0 8 :=
    BitVec.extractLsb'_append_extractLsb'_eq_extractLsb' rfl
  simp only [opcodeOf, fieldX, fieldY, fieldZ, Oct.ofNat_toNat_ofBits, hyz, hxyz, BitVec.extractLsb'_eq_self]

/-! ### What the encoder makes of what the decoder gives -/

/-- `i` is well formed and its bytes are `bs`. -/
def EncodesTo (i : Instr) (bs : List Byte) : Prop := i.wellFormed = true ∧ encode i = bs

/-- The extended instruction of an opcode (R220). -/
theorem encodesTo_decodeExtended (x : Byte) : EncodesTo (decodeExtended x) [0xCB, x] := by
  rw [← opcodeOf_fields x]
  generalize fieldY x = y, fieldZ x = z
  match fieldX x with
  | 0 | 1 | 2 | 3 => cases y <;> cases z <;> exact ⟨rfl, rfl⟩

/-- An instruction has one, two or three bytes (R82). -/
theorem opLength_cases (op : Byte) : opLength op = 1 ∨ opLength op = 2 ∨ opLength op = 3 := by
  unfold opLength
  split <;> simp

/-- The bytes of an opcode byte and the two after it that its format counts (R82, R88, R92), a 16-bit operand joined and cut again. -/
def formatBytes (op b1 b2 : Byte) : List Byte :=
  match opLength op with
  | 1 => [op]
  | 2 => [op, b1]
  | _ => [op, lo8 (joinBytes b2 b1), hi8 (joinBytes b2 b1)]

theorem formatBytes_one {op : Byte} (h : opLength op = 1) (b1 b2 : Byte) : formatBytes op b1 b2 = [op] := by
  simp only [formatBytes, h]

theorem formatBytes_two {op : Byte} (h : opLength op = 2) (b1 b2 : Byte) : formatBytes op b1 b2 = [op, b1] := by
  simp only [formatBytes, h]

theorem formatBytes_three {op : Byte} (h : opLength op = 3) (b1 b2 : Byte) : formatBytes op b1 b2 = [op, b1, b2] := by
  simp only [formatBytes, h, lo8_joinBytes, hi8_joinBytes]

theorem head?_formatBytes (op b1 b2 : Byte) : (formatBytes op b1 b2).head? = some op := by
  unfold formatBytes
  split <;> rfl

/-- What an opcode byte decodes to is well formed, and its bytes are those its format counts. -/
theorem encodesTo_decodeOp (op b1 b2 : Byte) : EncodesTo (decodeOp op b1 b2) (formatBytes op b1 b2) := by
  rw [← opcodeOf_fields op]
  generalize fieldY op = y, fieldZ op = z
  match fieldX op with
  | 0 | 1 | 2 => cases y <;> cases z <;> exact ⟨rfl, rfl⟩
  | 3 =>
    cases z with
    | o3 =>
      cases y with
      | o1 => exact encodesTo_decodeExtended b1
      | o0 | o2 | o3 | o4 | o5 | o6 | o7 => exact ⟨rfl, rfl⟩
    | o0 | o1 | o2 | o4 | o5 | o6 | o7 => cases y <;> exact ⟨rfl, rfl⟩

/-! ### What the decoder reads (R82, R88, R92) -/

theorem decode_length_two {op : Byte} (h : opLength op = 2) (b1 : Byte) (rest : List Byte) :
    decode (op :: b1 :: rest) = .ok (decodeOp op b1 0, rest) := by
  simp only [decode, h]

theorem decode_length_three {op : Byte} (h : opLength op = 3) (b1 b2 : Byte) (rest : List Byte) :
    decode (op :: b1 :: b2 :: rest) = .ok (decodeOp op b1 b2, rest) := by
  simp only [decode, h]

/-- What the decoder accepts: an opcode byte, the operand bytes its format has, and what is left over. -/
theorem decode_eq_ok {bs rest : List Byte} {i : Instr} (h : decode bs = .ok (i, rest)) :
    (∃ op, opLength op = 1 ∧ bs = op :: rest ∧ i = decodeOp op 0 0) ∨
    (∃ op b1, opLength op = 2 ∧ bs = op :: b1 :: rest ∧ i = decodeOp op b1 0) ∨
    (∃ op b1 b2, opLength op = 3 ∧ bs = op :: b1 :: b2 :: rest ∧ i = decodeOp op b1 b2) := by
  unfold decode at h
  split at h
  · cases h
  · next op _ =>
    split at h
    · next hl => cases h; exact .inl ⟨op, hl, rfl, rfl⟩
    · next hl => cases h; exact .inr (.inl ⟨op, _, hl, rfl, rfl⟩)
    · next h1 h2 =>
      cases h
      exact .inr (.inr ⟨op, _, _, ((opLength_cases op).resolve_left h1).resolve_left h2, rfl, rfl⟩)
    · cases h

/-- Settles O2: the bytes the decoder takes are those the format counts (`encodesTo_decodeOp`). -/
theorem decodedBytesReencode : Obligations.DecodedBytesReencode := by
  intro bs rest i h
  rcases decode_eq_ok h with ⟨op, hl, rfl, rfl⟩ | ⟨op, b1, hl, rfl, rfl⟩ | ⟨op, b1, b2, hl, rfl, rfl⟩
  · obtain ⟨hw, he⟩ := encodesTo_decodeOp op 0 0
    exact ⟨hw, by rw [he, formatBytes_one hl]; rfl⟩
  · obtain ⟨hw, he⟩ := encodesTo_decodeOp op b1 0
    exact ⟨hw, by rw [he, formatBytes_two hl]; rfl⟩
  · obtain ⟨hw, he⟩ := encodesTo_decodeOp op b1 b2
    exact ⟨hw, by rw [he, formatBytes_three hl]; rfl⟩

/-- A byte that decodes as an unassigned value is that value, one of the twelve (R90). -/
theorem eq_of_decodeOp_eq_unassigned {op b1 b2 v : Byte} (h : decodeOp op b1 b2 = .unassigned v) :
    v = op ∧ v ∈ unassignedValues := by
  obtain ⟨hw, he⟩ := encodesTo_decodeOp op b1 b2
  rw [h] at hw he
  have hhead : some v = some op := (congrArg List.head? he).trans (head?_formatBytes op b1 b2)
  exact ⟨Option.some.inj hhead, List.contains_iff_mem.1 hw⟩

/-- Settles O4: the bytes of an unassigned value are that one value, and it is well formed among the twelve. -/
theorem unassignedValuesAreTheTwelve : Obligations.UnassignedValuesAreTheTwelve := by
  refine fun op b1 b2 => ⟨⟨fun ⟨v, h⟩ => ?_, fun h => ⟨op, ?_⟩⟩, fun v h => (eq_of_decodeOp_eq_unassigned h).1⟩
  · obtain ⟨rfl, hv⟩ := eq_of_decodeOp_eq_unassigned h
    exact hv
  · fin_cases h <;> rfl

/-! ### Decoding what was encoded (R88, R91, R220) -/

/-- An opcode with a byte operand. -/
theorem decode_byteOperand {op : Byte} {k : Byte → Instr} (hl : opLength op = 2) (hk : ∀ b, decodeOp op b 0 = k b)
    (b : Byte) (rest : List Byte) : decode (op :: b :: rest) = .ok (k b, rest) := by
  rw [decode_length_two hl, hk]

/-- An opcode with a 16-bit operand, its low byte first (R88). -/
theorem decode_wordOperand {op : Byte} {k : Word → Instr} (hl : opLength op = 3)
    (hk : ∀ b1 b2, decodeOp op b1 b2 = k (joinBytes b2 b1)) (w : Word) (rest : List Byte) :
    decode (op :: lo8 w :: hi8 w :: rest) = .ok (k w, rest) := by
  rw [decode_length_three hl, hk, joinBytes_hi8_lo8]

theorem Operand8.exists_ofField (o : Operand8) : ∃ z, Operand8.ofField z = o := by
  cases o with
  | atHL => exact ⟨.o6, rfl⟩
  | reg r =>
    cases r with
    | B => exact ⟨.o0, rfl⟩
    | C => exact ⟨.o1, rfl⟩
    | D => exact ⟨.o2, rfl⟩
    | E => exact ⟨.o3, rfl⟩
    | H => exact ⟨.o4, rfl⟩
    | L => exact ⟨.o5, rfl⟩
    | A => exact ⟨.o7, rfl⟩

theorem RotOp.exists_ofField (op : RotOp) : ∃ y, RotOp.ofField y = op := by
  cases op with
  | RLC => exact ⟨.o0, rfl⟩
  | RRC => exact ⟨.o1, rfl⟩
  | RL => exact ⟨.o2, rfl⟩
  | RR => exact ⟨.o3, rfl⟩
  | SLA => exact ⟨.o4, rfl⟩
  | SRA => exact ⟨.o5, rfl⟩
  | SWAP => exact ⟨.o6, rfl⟩
  | SRL => exact ⟨.o7, rfl⟩

theorem exists_decodeExtended_eq_rot (op : RotOp) (o : Operand8) : ∃ x, decodeExtended x = Instr.rot op o := by
  obtain ⟨y, rfl⟩ := RotOp.exists_ofField op
  obtain ⟨z, rfl⟩ := Operand8.exists_ofField o
  exact ⟨opcodeOf 0 y z, by simp [decodeExtended]⟩

theorem exists_decodeExtended_eq_bitOp (b : Oct) (o : Operand8) : ∃ x, decodeExtended x = Instr.bitOp b o := by
  obtain ⟨z, rfl⟩ := Operand8.exists_ofField o
  exact ⟨opcodeOf 1 b z, by simp [decodeExtended]⟩

theorem exists_decodeExtended_eq_resOp (b : Oct) (o : Operand8) : ∃ x, decodeExtended x = Instr.resOp b o := by
  obtain ⟨z, rfl⟩ := Operand8.exists_ofField o
  exact ⟨opcodeOf 2 b z, by simp [decodeExtended]⟩

theorem exists_decodeExtended_eq_setOp (b : Oct) (o : Operand8) : ∃ x, decodeExtended x = Instr.setOp b o := by
  obtain ⟨z, rfl⟩ := Operand8.exists_ofField o
  exact ⟨opcodeOf 3 b z, by simp [decodeExtended]⟩

/-- An instruction of the extended table is decoded from its bytes (R91). -/
theorem decode_encode_extended {i : Instr} (h : ∃ x, decodeExtended x = i) (rest : List Byte) :
    decode (encode i ++ rest) = .ok (i, rest) := by
  obtain ⟨x, rfl⟩ := h
  obtain ⟨_, he⟩ := encodesTo_decodeExtended x
  rw [he]
  rfl

end Sys2Proof

namespace Sys2Proof.Machine

/-- Settles O1: by family, one opcode at a time; a family of the extended table is what its opcodes decode to. -/
theorem decodeEncodeRoundTrip : Obligations.DecodeEncodeRoundTrip := by
  intro i rest hw
  cases family i with
  | unassigned op =>
    simp only [Instr.wellFormed, List.contains_iff_mem, unassignedValues] at hw
    fin_cases hw <;> rfl
  | prefixCB x => cases hw
  | nop | halt | di | ei | rlca | rrca | rla | rra | daa | cpl | scf | ccf | ld_atBC_A | ld_A_atBC | ld_atDE_A | ld_A_atDE
  | ld_atHLinc_A | ld_A_atHLinc | ld_atHLdec_A | ld_A_atHLdec | ld_atC_A | ld_A_atC | inc_atHL | dec_atHL | ld_SP_HL
  | jp_HL | ret | reti => rfl
  | jr_e8 b | ld_atHL_d8 b | ldh_atA8_A b | ldh_A_atA8 b | add_SP_e8 b | ld_HL_SPe8 b =>
    exact decode_byteOperand rfl (fun _ => rfl) b rest
  | ld_atA16_SP w | ld_atA16_A w | ld_A_atA16 w | jp_a16 w | call_a16 w =>
    exact decode_wordOperand rfl (fun _ _ => rfl) w rest
  | ldReg d r => cases d <;> cases r <;> rfl
  | ldRegAtHL r | ldAtHLReg r | incReg r | decReg r => cases r <;> rfl
  | ldRegImm d d8 => cases d <;> exact decode_byteOperand rfl (fun _ => rfl) d8 rest
  | incPair p | decPair p | addHL p => cases p <;> rfl
  | ldPairImm p d16 => cases p <;> exact decode_wordOperand rfl (fun _ _ => rfl) d16 rest
  | push p | pop p => cases p <;> rfl
  | retIf c => cases c <;> rfl
  | jrIf c e8 => cases c <;> exact decode_byteOperand rfl (fun _ => rfl) e8 rest
  | jpIf c a16 | callIf c a16 => cases c <;> exact decode_wordOperand rfl (fun _ _ => rfl) a16 rest
  | rst n => cases n <;> rfl
  | alu op src =>
    cases src with
    | reg r => cases op <;> cases r <;> rfl
    | atHL => cases op <;> rfl
    | imm d8 => cases op <;> exact decode_byteOperand rfl (fun _ => rfl) d8 rest
  | rot op o => exact decode_encode_extended (exists_decodeExtended_eq_rot op o) rest
  | bitOp b o => exact decode_encode_extended (exists_decodeExtended_eq_bitOp b o) rest
  | resOp b o => exact decode_encode_extended (exists_decodeExtended_eq_resOp b o) rest
  | setOp b o => exact decode_encode_extended (exists_decodeExtended_eq_setOp b o) rest

/-! ### The step fetches what the decoder reads (R80, R81, R88) -/

theorem fetch8_of_busRead {s : State} {b : Byte} (h : busRead s s.pc = .ok b) :
    fetch8 s = .ok (b, (s.noteRead s.pc).setPc (s.pc + 1)) := by
  rw [fetch8, readByte_ok h]
  rfl

/-- The fetch of a byte after another: PC stands at `a`, and `s` is what the reads so far leave. -/
theorem fetch8_setPc {s : State} {a : Word} {b : Byte} (h : busRead s a = .ok b) :
    fetch8 (s.setPc a) = .ok (b, (s.noteRead a).setPc (a + 1)) :=
  fetch8_of_busRead ((busRead_setPc s a a).trans h)

/-- Where the bytes from PC on are read in turn, the fetch gives what they decode to, with PC past them (R81, R88). -/
theorem fetchInstr_of_bytesRead {s t : State} {bs : List Byte} {i : Instr} (hr : BytesRead s s.pc bs t)
    (hd : decode bs = .ok (i, [])) : fetchInstr s = .ok (i, t.setPc (s.pc + BitVec.ofNat 16 bs.length)) := by
  rcases decode_eq_ok hd with ⟨op, hl, rfl, rfl⟩ | ⟨op, b1, hl, rfl, rfl⟩ | ⟨op, b1, b2, hl, rfl, rfl⟩
  · obtain ⟨h0, rfl⟩ := hr
    simp only [fetchInstr, fetch8_of_busRead h0, hl]
    rfl
  · obtain ⟨h0, h1, rfl⟩ := hr
    simp only [fetchInstr, fetch8_of_busRead h0, fetch8_setPc h1, hl]
    simp only [BitVec.add_assoc]
    rfl
  · obtain ⟨h0, h1, h2, rfl⟩ := hr
    simp only [fetchInstr, fetch8_of_busRead h0, fetch8_setPc h1, fetch8_setPc h2, hl]
    simp only [BitVec.add_assoc]
    rfl

/-- A step on the CPU's turn is the CPU's step from the state with that turn used up (R250). -/
theorem step_of_cpuTurn {s s' : State} (hc : CpuTurn s s') : step s = cpuStep s' := by
  unfold CpuTurn at hc
  rw [step_cpu (by rw [hc]), hc]

/-- Settles O5: the fetch gives what the encoded bytes decode to, and that is the instruction (`decodeEncodeRoundTrip`). -/
theorem stepRunsTheDecodedInstruction : Obligations.StepRunsTheDecodedInstruction := by
  intro s s' t i hc hh hw hr
  obtain ⟨agent, rfl⟩ := hc.eq
  have hd : decode (encode i) = .ok (i, []) := by simpa using decodeEncodeRoundTrip i [] hw
  rw [step_of_cpuTurn hc, cpuStep, if_neg (by simp [hh]), fetchInstr_of_bytesRead hr hd]

/-! ### The cost of a step (R94) -/

/-- An instruction that completes has one of the six costs. -/
theorem exec_isCost {i : Instr} {s t : State} (h : exec i s = .next t) : IsCost t.cost := by
  by_cases hu : ∃ op, i = .unassigned op
  · obtain ⟨op, rfl⟩ := hu
    rw [exec_unassigned] at h
    cases h
  · rcases exec_builds i s (fun op e => hu ⟨op, e⟩) with ⟨u, _, hcost, e⟩ | ⟨_, _, _, e⟩
    · cases h.symm.trans e
      exact hcost
    · cases h.symm.trans e

/-- Settles O56: the stall costs 4, and an instruction that completes one of the six (`exec_isCost`). -/
theorem costsAreOfTheSet : Obligations.CostsAreOfTheSet := by
  intro s s' t hc h
  rw [step_of_cpuTurn hc, cpuStep] at h
  split at h
  · cases h
    show IsCost 4
    decide
  · split at h
    · cases h
    · exact exec_isCost h

/-! ### The CB byte and the extended opcode after it (R91, R214) -/

theorem exec_prefixCB (x : Byte) (s : State) : exec (.prefixCB x) s = runExtended x s := rfl

/-- The fields of an extended opcode run as the instruction they decode to (R220). -/
theorem exec_decodeExtended (x : Byte) (s : State) : exec (decodeExtended x) s = runExtended x s := by
  simp only [decodeExtended, runExtended]
  generalize fieldY x = y
  match fieldX x with
  | 0 =>
    refine (exec_rot _ _ s).trans ?_
    cases y <;> rfl
  | 1 => exact exec_bitOp _ _ s
  | 2 => exact exec_resOp _ _ s
  | 3 => exact exec_setOp _ _ s

/-- Where (HL) can be read, every operand of field `r` can (R220). -/
theorem withOperand_completes {s : State} {v : Byte} (hv : busRead s s.hl.value = .ok v) {o : Operand8}
    {k : Byte → State → Result} (hk : ∀ b u, ∃ t, k b u = .next t) : ∃ t, withOperand s o k = .next t := by
  cases o with
  | reg r => exact hk _ s
  | atHL =>
    obtain ⟨t, ht⟩ := hk v (s.noteRead s.hl.value)
    exact ⟨t, (withByte_ok hv k).trans ht⟩

theorem liveOrStub_completes {s : State} {live : State → Result} (h : ∃ t, live s = .next t) (o : Operand8) :
    ∃ t, liveOrStub o live s = .next t := by
  unfold liveOrStub
  split
  · exact h
  · exact ⟨_, finish_eq _ s⟩

theorem runExtended_completes {s : State} {v : Byte} (hv : busRead s s.hl.value = .ok v) (x : Byte) :
    ∃ t, runExtended x s = .next t := by
  have hop {o : Operand8} {n : Nat} (f : Byte → State → State) : ∃ t, withOperand s o (fun b u => finish n (f b u)) = .next t :=
    withOperand_completes hv fun b u => ⟨_, finish_eq n (f b u)⟩
  simp only [runExtended]
  split
  · split
    · exact hop _
    · exact liveOrStub_completes (hop _) _
  · exact liveOrStub_completes (hop _) _
  · exact liveOrStub_completes (hop _) _
  · exact liveOrStub_completes (hop _) _

/-- Settles O54: both are the extended opcode run by its fields, which stops only where (HL) cannot be read. -/
theorem prefixRunsTheExtendedInstruction : Obligations.PrefixRunsTheExtendedInstruction := by
  intro x s
  rw [exec_prefixCB, exec_decodeExtended]
  refine ⟨rfl, fun v hv => ?_⟩
  obtain ⟨t, ht⟩ := runExtended_completes hv x
  exact ⟨t, ht, ht⟩

end Sys2Proof.Machine

end

/-! ## 16-bit loads and the stack (40_loads16_stack.md), and operands that cannot be read -/

section

namespace Sys2Proof.Machine

/-! ### Which register an update of a pair reaches (R10, R12) -/

theorem State.getR8_setR16_of_notMem {p : Reg16} {r : Reg8} (h : r ∉ halves p) (s : State) (v : Word) :
    (s.setR16 p v).getR8 r = s.getR8 r := by
  cases p <;> cases r <;> first | rfl | exact absurd (by simp [halves]) h

theorem State.setR16_sp_of_ne {p : Reg16} (h : p ≠ .SP) (s : State) (v : Word) : (s.setR16 p v).sp = s.sp := by
  cases p with
  | SP => exact absurd rfl h
  | BC | DE | HL => rfl

/-! ### Frames: an update of what the instruction may touch leaves the rest as before (R60) -/

/-- Where no access of the bus is named, a frame starts from no change at all. -/
theorem KeepsAllBut.refl {w : Touch} (s : State) (hw : w.accesses = [] := by rfl) : KeepsAllBut w s s :=
  ⟨fun _ _ => rfl, fun _ => rfl, fun _ => rfl, fun _ => rfl, fun _ => rfl, fun _ => rfl, rfl, rfl, rfl, rfl,
    by rw [hw]; rfl, KeepsMemory.of_sameBus (SameBus.refl s) rfl rfl⟩

section

variable {w : Touch} {s t : State}

theorem KeepsAllBut.setCost (h : KeepsAllBut w s t) (n : Nat) : KeepsAllBut w s (t.setCost n) := by
  obtain ⟨hr, hsp, hf, hpc, hime, hhalted, htype, hcb, hvec, hagent, hplat, hmem⟩ := h
  exact ⟨by simpa using hr, hsp, hf, hpc, hime, hhalted, htype, hcb, hvec, hagent, hplat,
    hmem.sameBus (SameBus.refl t) rfl rfl rfl⟩

theorem KeepsAllBut.setFlags (h : KeepsAllBut w s t) (hw : w.flags = true) (f : Flags) : KeepsAllBut w s (t.setFlags f) := by
  obtain ⟨hr, hsp, _, hpc, hime, hhalted, htype, hcb, hvec, hagent, hplat, hmem⟩ := h
  exact ⟨by simpa using hr, hsp, by simp [hw], hpc, hime, hhalted, htype, hcb, hvec, hagent, hplat,
    hmem.sameBus (SameBus.refl t) rfl rfl rfl⟩

theorem KeepsAllBut.setR16 (h : KeepsAllBut w s t) {p : Reg16} (hp : halves p ⊆ w.r8) (hw : p = .SP → w.sp = true) (v : Word) :
    KeepsAllBut w s (t.setR16 p v) := by
  obtain ⟨hr, hsp, hf, hpc, hime, hhalted, htype, hcb, hvec, hagent, hplat, hmem⟩ := h
  refine ⟨fun r hn => ?_, fun hn => ?_, by simpa using hf, by simpa using hpc, by simpa using hime, by simpa using hhalted,
    by simpa using htype, by simpa using hcb, by simpa using hvec, by simpa using hagent, by simpa using hplat, ?_⟩
  · rw [State.getR8_setR16_of_notMem (fun hm => hn (hp hm)), hr r hn]
  · rw [State.setR16_sp_of_ne (fun e => by simp [hw e] at hn), hsp hn]
  · exact hmem.sameBus (by simp [SameBus]) (by simp) (by simp) (by simp)

theorem KeepsAllBut.setAF (h : KeepsAllBut w s t) (hA : .A ∈ w.r8) (hw : w.flags = true) (p : RegisterPair) :
    KeepsAllBut w s { t with af := p } := by
  obtain ⟨hr, hsp, _, hpc, hime, hhalted, htype, hcb, hvec, hagent, hplat, hmem⟩ := h
  refine ⟨fun r hn => ?_, hsp, by simp [hw], hpc, hime, hhalted, htype, hcb, hvec, hagent, hplat,
    hmem.sameBus (SameBus.refl t) rfl rfl rfl⟩
  cases r with
  | A => exact absurd hA hn
  | B | C | D | E | H | L => exact hr _ hn

end

/-! ### 16-bit loads (R102 to R105, R190) -/

/-- Settles O31: one pair is written, then the cost. -/
theorem Load16.loadPair : Obligations.LoadPair := by
  refine ⟨fun p d16 s => ⟨by cases p <;> rfl, _, exec_ldPairImm p d16 s, ?_, rfl, ?_⟩, rfl,
    fun s => ⟨_, rfl, RegisterPair.value_ofWord _, rfl, ?_⟩⟩
  · exact s.getR16_setR16_same p d16
  · exact ((KeepsAllBut.refl s).setR16 (List.Subset.refl _) (by simp) d16).setCost 12
  · exact ((KeepsAllBut.refl s).setR16 (p := .SP) (by simp [halves]) (fun _ => rfl) s.hl.value).setCost 8

/-- A store of two bytes at rising addresses leaves everything else (R63). Where the first is a control write the RAM bank may change, but then
the second lies outside the RAM window. -/
theorem memWrite16_keepsAllBut (s : State) (a v : Word) :
    KeepsAllBut { accesses := [.write a (lo8 v), .write (a + 1) (hi8 v)] } s (memWrite16 s a v) := by
  have hmem : KeepsMemory [a, a + 1] s (memWrite16 s a v) := by
    refine (KeepsMemory.busWrite s a (lo8 v)).two (KeepsMemory.busWrite _ (a + 1) (hi8 v)) (fun h => ?_) ?_
    · simp only [memWrite16, busWrite_platBehaviour] at h ⊢
      exact PlatBehaviour.note_of_note_note h
    · by_cases ha : 0x8000 ≤ a.toNat
      · exact .inl (busWrite_currentRamBank_of_le ha (lo8 v))
      · refine .inr ?_
        bv_omega
  refine ⟨?_, ?_, ?_, ?_, ?_, ?_, ?_, ?_, ?_, ?_, ?_, hmem⟩ <;> simp [memWrite16]

/-- Where both bytes of a 16-bit store are kept, they are read back (R60, R63). -/
theorem busRead_memWrite16 {s : State} (hp : s.plat.wf = true) (hr : s.ramBanks.wf = true) {a : Word} (ha : Holds s a)
    (hb : Holds s (a + 1)) (v : Word) :
    busRead (memWrite16 s a v) a = .ok (lo8 v) ∧ busRead (memWrite16 s a v) (a + 1) = .ok (hi8 v) := by
  have hne : a ≠ a + 1 := by bv_omega
  have hb' : Holds (busWrite s a (lo8 v)) (a + 1) := hb.busWrite ha (lo8 v)
  unfold memWrite16
  constructor
  · rw [busRead_busWrite_ne hb' hne, busRead_busWrite_same hp hr ha]
  · exact busRead_busWrite_same (busWrite_plat_wf hp a _) (busWrite_ramBanks_wf hr a _) hb' _

/-- Settles O32: the two bytes of SP stored by `MemWrite`, low byte first, then the cost. -/
theorem storeStackPointerLittleEndian : Obligations.StoreStackPointerLittleEndian := by
  intro a16 s
  have hlo : lo8 s.sp.value = s.sp.lo := lo8_joinBytes s.sp.hi s.sp.lo
  have hhi : hi8 s.sp.value = s.sp.hi := hi8_joinBytes s.sp.hi s.sp.lo
  have hexec : exec (.ld_atA16_SP a16) s = .next ((memWrite16 s a16 s.sp.value).setCost 20) := rfl
  rw [← hlo, ← hhi]
  refine ⟨rfl, _, hexec, SameBus.refl _, rfl, fun hp hr ha hb => ?_, (memWrite16_keepsAllBut s a16 s.sp.value).setCost 20⟩
  simpa using busRead_memWrite16 hp hr ha hb s.sp.value

/-- Sign extension on numbers (R9, R88). -/
theorem sext16_toNat (e8 : Byte) : (sext16 e8).toNat = e8.toNat + if 0x80 ≤ e8.toNat then 0xFF00 else 0 := by
  have he : e8.toNat < 2 ^ 8 := e8.isLt
  have hmod : e8.toNat % 2 ^ 16 = e8.toNat := Nat.mod_eq_of_lt (by omega)
  simp only [sext16, BitVec.toNat_signExtend, BitVec.toNat_setWidth, BitVec.msb_eq_decide, decide_eq_true_eq, hmod]

/-- Adding a sign-extended byte adds the displacement modulo 0x10000 (R88). -/
theorem add_sext16_toNat (v : Word) (e8 : Byte) :
    ((v + sext16 e8).toNat : Int) = ((v.toNat : Int) + displacement e8) % 0x10000 := by
  have hv : v.toNat < 2 ^ 16 := v.isLt
  have he : e8.toNat < 2 ^ 8 := e8.isLt
  rw [BitVec.toNat_add, sext16_toNat, displacement]
  split <;> split <;> omega

/-- The carry out of bit 3 of the low bytes (R105, R190). -/
theorem addSPFlags_h (sp : Word) (e8 : Byte) :
    (addSPFlags sp e8).h = decide (sp.toNat % 0x10 + e8.toNat % 0x10 > 0xF) := by
  have hlow : sp.toNat % 0x100 % 0x10 = sp.toNat % 0x10 := Nat.mod_mod_of_dvd _ (by decide)
  simp only [addSPFlags, lowNibble, lo8_toNat, hlow]

/-- The carry out of bit 7 of the low bytes (R105, R190). -/
theorem addSPFlags_c (sp : Word) (e8 : Byte) : (addSPFlags sp e8).c = decide (sp.toNat % 0x100 + e8.toNat > 0xFF) := by
  simp only [addSPFlags, lo8_toNat]

/-- Settles O33: both load a pair with the sum and write the same flags. -/
theorem stackPointerPlusDisplacement : Obligations.StackPointerPlusDisplacement := by
  intro e8 s h c hh hc
  obtain rfl : h = (addSPFlags s.sp.value e8).h := hh.trans (addSPFlags_h _ _).symm
  obtain rfl : c = (addSPFlags s.sp.value e8).c := hc.trans (addSPFlags_c _ _).symm
  have hsum : ((RegisterPair.ofWord (s.sp.value + sext16 e8)).value.toNat : Int) =
      ((s.sp.value.toNat : Int) + displacement e8) % 0x10000 := by
    rw [RegisterPair.value_ofWord, add_sext16_toNat]
  refine ⟨rfl, rfl, ⟨_, rfl, hsum, flagsAre_setFlags _ _ 12, rfl, ?_⟩, ⟨_, rfl, hsum, flagsAre_setFlags _ _ 16, rfl, ?_⟩⟩
  · exact (((KeepsAllBut.refl s).setR16 (p := .HL) (List.Subset.refl _) nofun _).setFlags rfl _).setCost 12
  · exact (((KeepsAllBut.refl s).setR16 (p := .SP) (by simp [halves]) (fun _ => rfl) _).setFlags rfl _).setCost 16

/-! ### Push and pop (R100, R101, R106 to R108) -/

theorem push16_keepsAllBut (s : State) (v : Word) :
    KeepsAllBut { sp := true, accesses := [.write (s.sp.value - 1) (hi8 v), .write (s.sp.value - 1 - 1) (lo8 v)] } s
      (push16 s v) := by
  refine ⟨?_, nofun, ?_, ?_, ?_, ?_, ?_, ?_, ?_, ?_, ?_, push16_keepsMemory s v⟩ <;> simp

/-- Moving SP between the two writes of a push makes no difference to the bus (R100). -/
theorem push16_sameBus (s : State) (v : Word) :
    SameBus (push16 s v) (busWrite (busWrite s (s.sp.value - 1) (hi8 v)) (s.sp.value - 1 - 1) (lo8 v)) := by
  rw [push16_eq]
  generalize s.sp.value - 1 = a
  have hfirst : SameBus (busWrite (s.setSp a) a (hi8 v)) (busWrite s a (hi8 v)) :=
    (SameBus.setSp s a).write rfl Iff.rfl a (hi8 v)
  exact ((SameBus.setSp _ (a - 1)).trans hfirst).write (by simp) (by simp) (a - 1) (lo8 v)

/-- Settles O34: a push, then the cost. -/
theorem Load16.pushPair : Obligations.PushPair := by
  intro p s
  have hsp : s.sp.value - 2 = s.sp.value - 1 - 1 := by bv_omega
  rw [hsp]
  exact ⟨by cases p <;> rfl, _, exec_push p s, by simp, push16_sameBus s _, rfl, (push16_keepsAllBut s _).setCost 16⟩

/-- `s` after a pop: the two bytes at SP read, SP two higher (R101). -/
def popped (s : State) : State := ((s.noteRead s.sp.value).noteRead (s.sp.value + 1)).setSp (s.sp.value + 2)

theorem popped_keepsAllBut {w : Touch} (s : State) (hsp : w.sp = true := by rfl)
    (hw : w.accesses = [.read s.sp.value, .read (s.sp.value + 1)] := by rfl) : KeepsAllBut w s (popped s) :=
  ⟨by simp [popped], by simp [hsp], fun _ => rfl, fun _ => rfl, fun _ => rfl, fun _ => rfl, rfl, rfl, rfl, rfl,
    by rw [hw]; rfl, KeepsMemory.of_sameBus (SameBus.refl s) rfl rfl⟩

/-- A pop whose two bytes can be read (R101). -/
theorem withPop_of_busRead {s : State} {lo hi : Byte} (hlo : busRead s s.sp.value = .ok lo)
    (hhi : busRead (s.noteRead s.sp.value) (s.sp.value + 1) = .ok hi) (k : Word → State → Result) :
    withPop s k = k (joinBytes hi lo) (popped s) := by
  have hpop : pop16 s = .ok (joinBytes hi lo, popped s) := by
    simp only [pop16_eq, hlo, hhi, popped, BitVec.add_assoc]
    rfl
  exact withPop_ok hpop k

theorem exec_pop_of_stackedPair {p : Reg16} {q : Reg16s} (h : stackedPair p = some q) (s : State) :
    exec (Instr.pop q) s = popPair p s := by
  cases p <;> cases h <;> rfl

/-- `POP AF` clears the low nibble of the popped byte (R108). -/
theorem poppedF_toNat (hi lo : Byte) :
    ((joinBytes hi lo).extractLsb' 4 4 ++ (0 : BitVec 4)).toNat = lo.toNat / 0x10 * 0x10 := by
  have hl : lo.toNat < 2 ^ 8 := lo.isLt
  have hzero : (0 : BitVec 4).toNat = 0 := rfl
  simp only [BitVec.toNat_append, BitVec.extractLsb'_toNat, joinBytes_toNat, Nat.shiftRight_eq_div_pow, Nat.shiftLeft_eq,
    hzero, Nat.or_zero]
  omega

/-- Settles O35: the pop of two readable bytes, then the pair they go to. -/
theorem Load16.popPair : Obligations.PopPair := by
  refine ⟨fun p => by cases p <;> rfl, fun s lo hi hlo hhi => ⟨fun p q hpq => ?_, ?_⟩⟩
  · have hp : p ≠ .SP := by rintro rfl; cases hpq
    refine ⟨_, (exec_pop_of_stackedPair hpq s).trans (withPop_of_busRead hlo hhi _), ?_, ?_, rfl, ?_⟩
    · exact (popped s).getR16_setR16_same p _
    · simp [State.setR16_sp_of_ne hp, popped]
    · exact ((popped_keepsAllBut s).setR16 (List.Subset.refl _) (fun _ => rfl) _).setCost 12
  · refine ⟨_, withPop_of_busRead hlo hhi _, hi8_joinBytes hi lo, poppedF_toNat hi lo, ?_, rfl, ?_⟩
    · exact RegisterPair.value_ofWord _
    · exact ((popped_keepsAllBut s).setAF (List.mem_singleton_self _) rfl _).setCost 12

/-! ### Operands that cannot be read (R101, R244, R246) -/

/-- A pop stops where either byte cannot be read. -/
theorem pop16_of_unreadable {s : State} {f : Fault} (h : busRead s s.sp.value = .error f ∨
    ∃ lo, busRead s s.sp.value = .ok lo ∧ busRead (s.noteRead s.sp.value) (s.sp.value + 1) = .error f) : pop16 s = .error f := by
  rcases h with h | ⟨lo, hlo, hhi⟩
  · rw [pop16_eq, h]
  · rw [pop16_eq, hlo]
    simp only [hhi]

/-- The spec's conditions on the bits of F are the model's (R85, R160). -/
theorem holdsOf_eq_cond (s : State) (c : Cond) : holdsOf s c = s.cond c := by
  have hone (b : Nat) : decide (bitOf s.af.lo.toNat b = 1) = s.af.lo.getLsbD b := by
    simp [bitOf_toNat_eq_one_iff]
  have hzero (b : Nat) : decide (bitOf s.af.lo.toNat b = 0) = !s.af.lo.getLsbD b := by
    have hbit : bitOf s.af.lo.toNat b = 0 ↔ ¬bitOf s.af.lo.toNat b = 1 := by unfold bitOf; omega
    simp [hbit, bitOf_toNat_eq_one_iff]
  cases c with
  | NZ => exact hzero 7
  | Z => exact hone 7
  | NC => exact hzero 4
  | C => exact hone 4

theorem liveOrStub_of_silicon {s : State} (h : s.cbMode = .silicon) (o : Operand8) (live : State → Result) :
    liveOrStub o live s = live s := by
  rw [liveOrStub, h]

/-- Settles O45: each reads its operand first, and so stops with the abort of that read. -/
theorem unreadableOperandAborts : Obligations.UnreadableOperandAborts := by
  refine fun s f => ⟨fun h => ?_, fun h => ?_⟩
  · have hbyte (k : Byte → State → Result) : withByte s s.hl.value k = .fault f := withByte_error h k
    refine ⟨fun op => ?_, hbyte _, hbyte _, hbyte _, fun hm => ⟨fun op => ?_, fun b => ⟨?_, ?_, ?_⟩⟩⟩
    · exact (exec_alu op .atHL s).trans (hbyte _)
    · rw [exec_rot]
      split
      · exact hbyte _
      · rw [liveOrStub_of_silicon hm]; exact hbyte _
    · rw [exec_bitOp, liveOrStub_of_silicon hm]; exact hbyte _
    · rw [exec_resOp, liveOrStub_of_silicon hm]; exact hbyte _
    · rw [exec_setOp, liveOrStub_of_silicon hm]; exact hbyte _
  · have hpop (k : Word → State → Result) : withPop s k = .fault f := withPop_error (pop16_of_unreadable h) k
    refine ⟨hpop _, hpop _, fun p => ?_, fun c hc => ?_⟩
    · cases p with
      | BC | DE | HL | AF => exact hpop _
    · rw [exec_retIf, branchIf, if_pos ((holdsOf_eq_cond s c).symm.trans hc)]
      exact hpop _

end Sys2Proof.Machine

end

/-! ## 8-bit loads (41_loads8.md R120 to R138) -/

section

namespace Sys2Proof.Machine

/-! ### Frames: a register written, a byte read, a byte stored (R60) -/

theorem KeepsAllBut.setR8 {w : Touch} {s t : State} (h : KeepsAllBut w s t) {d : Reg8} (hd : d ∈ w.r8) (v : Byte) :
    KeepsAllBut w s (t.setR8 d v) := by
  obtain ⟨hr, hsp, hf, hpc, hime, hhalted, htype, hcb, hvec, hagent, hplat, hmem⟩ := h
  refine ⟨fun r hn => ?_, by simpa using hsp, by simpa using hf, by simpa using hpc, by simpa using hime, by simpa using hhalted,
    by simpa using htype, by simpa using hcb, by simpa using hvec, by simpa using hagent, by simpa using hplat, ?_⟩
  · rw [State.getR8_setR8_ne t (fun e => hn (by rwa [e])), hr r hn]
  · exact hmem.sameBus (by simp [SameBus]) (by simp) (by simp) (by simp)

/-- Where one read is named, a frame starts from that read noted. -/
theorem noteRead_keepsAllBut {w : Touch} (s : State) (a : Word) (hw : w.accesses = [.read a] := by rfl) :
    KeepsAllBut w s (s.noteRead a) :=
  ⟨fun r _ => s.getR8_noteRead a r, fun _ => rfl, fun _ => rfl, fun _ => rfl, fun _ => rfl, fun _ => rfl, rfl, rfl, rfl, rfl,
    by rw [hw]; rfl, KeepsMemory.of_sameBus (SameBus.noteRead s a) rfl rfl⟩

/-- Where one store is named, a frame starts from that store made. -/
theorem busWrite_keepsAllBut {w : Touch} (s : State) (a : Word) (v : Byte) (hw : w.accesses = [.write a v] := by rfl) :
    KeepsAllBut w s (busWrite s a v) := by
  refine ⟨?_, ?_, ?_, ?_, ?_, ?_, ?_, ?_, ?_, ?_, ?_, by rw [hw]; exact KeepsMemory.busWrite s a v⟩ <;> simp [hw]

theorem SameBus.setR16 (s : State) (p : Reg16) (v : Word) : SameBus (s.setR16 p v) s := by simp [SameBus]

/-! ### The shared operations: a register loaded, and a byte stored -/

theorem loadReg_completes (d : Reg8) (v : Byte) (n : Nat) (s : State) :
    ∃ t, loadReg d v n s = .next t ∧ t.getR8 d = v ∧ t.cost = n ∧ KeepsAllBut { r8 := [d] } s t :=
  ⟨_, rfl, by simp, rfl, ((KeepsAllBut.refl s).setR8 (List.mem_singleton_self d) v).setCost n⟩

theorem loadRegFrom_completes {s : State} {a : Word} {v : Byte} (h : busRead s a = .ok v) (d : Reg8) (n : Nat) :
    ∃ t, loadRegFrom d a n s = .next t ∧ t.getR8 d = v ∧ t.cost = n ∧ KeepsAllBut { r8 := [d], accesses := [.read a] } s t :=
  ⟨_, withByte_ok h _, by simp, rfl, ((noteRead_keepsAllBut s a).setR8 (List.mem_singleton_self d) v).setCost n⟩

theorem loadRegFrom_aborts {s : State} {a : Word} {f : Fault} (h : busRead s a = .error f) (d : Reg8) (n : Nat) :
    loadRegFrom d a n s = .fault f := withByte_error h _

theorem storeByte_completes (a : Word) (v : Byte) (n : Nat) (s : State) :
    ∃ t, storeByte a v n s = .next t ∧ SameBus t (busWrite s a v) ∧ t.cost = n ∧
      KeepsAllBut { accesses := [.write a v] } s t :=
  ⟨_, rfl, SameBus.refl _, rfl, (busWrite_keepsAllBut s a v).setCost n⟩

/-! ### Registers, immediates, and memory at HL (R120 to R124) -/

/-- Settles O27: both are `loadReg`, of a register's byte or of the immediate. -/
theorem loadRegisterFromRegisterOrImmediate : Obligations.LoadRegisterFromRegisterOrImmediate := by
  refine ⟨fun d r s => ⟨by cases d <;> cases r <;> rfl, ?_⟩, fun d d8 s => ⟨by cases d <;> rfl, ?_⟩⟩
  · rw [exec_ldReg]; exact loadReg_completes d _ 4 s
  · rw [exec_ldRegImm]; exact loadReg_completes d d8 8 s

/-- Settles O28: the load is `loadRegFrom` and the stores are `storeByte`, at the HL the instruction begins with. -/
theorem registerAndImmediateThroughHL : Obligations.RegisterAndImmediateThroughHL := by
  intro s r d8
  rw [exec_ldRegAtHL, exec_ldAtHLReg]
  exact ⟨by cases r <;> rfl, by cases r <;> rfl, rfl, fun _ hv => loadRegFrom_completes hv r 8,
    fun _ hf => loadRegFrom_aborts hf r 8, storeByte_completes _ _ 8 s, storeByte_completes _ d8 12 s⟩

/-! ### The accumulator and memory (R125 to R128, R133 to R138) -/

/-- The high page of addresses on numbers (R133 to R136). -/
theorem highPage_eq_ofNat (n : Byte) : highPage n = BitVec.ofNat 16 (0xFF00 + n.toNat) := by
  apply BitVec.eq_of_toNat_eq
  simp [highPage, zext16]

/-- The pairs of a load and a store of A differ only in the address and the cost. -/
theorem accumulatorThrough_of_exec {load store : Instr} {addr : Word} {n : Nat} {s : State}
    (hload : exec load s = loadRegFrom .A addr n s) (hstore : exec store s = storeByte addr (s.getR8 .A) n s) :
    (∀ v, busRead s addr = .ok v → ∃ t, exec load s = .next t ∧ t.getR8 .A = v ∧ t.cost = n ∧
      KeepsAllBut { r8 := [.A], accesses := [.read addr] } s t) ∧
    (∀ f, busRead s addr = .error f → exec load s = .fault f) ∧
    ∃ t, exec store s = .next t ∧ SameBus t (busWrite s addr (s.getR8 .A)) ∧ t.cost = n ∧
      KeepsAllBut { accesses := [.write addr (s.getR8 .A)] } s t := by
  rw [hload, hstore]
  exact ⟨fun _ hv => loadRegFrom_completes hv .A n, fun _ hf => loadRegFrom_aborts hf .A n, storeByte_completes addr _ n s⟩

/-- Settles O29: each of the five pairs is `loadRegFrom` and `storeByte` at its address. -/
theorem accumulatorThroughMemory : Obligations.AccumulatorThroughMemory := by
  intro a8 a16 s load store loadBytes storeBytes addr cycles hmem
  simp only [List.mem_cons, Prod.mk.injEq, List.not_mem_nil, or_false, ← highPage_eq_ofNat] at hmem
  obtain ⟨rfl, rfl, rfl, rfl, rfl, rfl⟩ | ⟨rfl, rfl, rfl, rfl, rfl, rfl⟩ | ⟨rfl, rfl, rfl, rfl, rfl, rfl⟩ |
    ⟨rfl, rfl, rfl, rfl, rfl, rfl⟩ | ⟨rfl, rfl, rfl, rfl, rfl, rfl⟩ := hmem
  all_goals exact ⟨rfl, rfl, accumulatorThrough_of_exec rfl rfl⟩

/-! ### The accumulator through HL, then HL stepped (R129 to R132) -/

theorem storeAThenSetHL_completes (next : Word) (s : State) :
    ∃ t, storeAThenSetHL next s = .next t ∧ SameBus t (busWrite s s.hl.value (s.getR8 .A)) ∧ t.hl.value = next ∧ t.cost = 8 ∧
      KeepsAllBut { r8 := [.H, .L], accesses := [.write s.hl.value (s.getR8 .A)] } s t :=
  ⟨_, rfl, SameBus.setR16 _ .HL next, RegisterPair.value_ofWord next, rfl,
    ((busWrite_keepsAllBut s s.hl.value (s.getR8 .A)).setR16 (p := .HL) (List.Subset.refl _) nofun next).setCost 8⟩

theorem loadAThenSetHL_completes {s : State} {v : Byte} (h : busRead s s.hl.value = .ok v) (next : Word) :
    ∃ t, loadAThenSetHL next s = .next t ∧ t.getR8 .A = v ∧ t.hl.value = next ∧ t.cost = 8 ∧
      KeepsAllBut { r8 := [.A, .H, .L], accesses := [.read s.hl.value] } s t :=
  ⟨_, withByte_ok h _, rfl, RegisterPair.value_ofWord next, rfl,
    (((noteRead_keepsAllBut s s.hl.value).setR8 List.mem_cons_self v).setR16 (p := .HL) (List.subset_cons_self _ _) nofun
      next).setCost 8⟩

theorem loadAThenSetHL_aborts {s : State} {f : Fault} (h : busRead s s.hl.value = .error f) (next : Word) :
    loadAThenSetHL next s = .fault f := withByte_error h _

/-- The pairs of a load and a store of A that step HL differ only in where HL goes. -/
theorem accumulatorThenSetHL_of_exec {store load : Instr} {next : Word} {n : Nat} {s : State} (hn : next.toNat = n)
    (hstore : exec store s = storeAThenSetHL next s) (hload : exec load s = loadAThenSetHL next s) :
    (∃ t, exec store s = .next t ∧ SameBus t (busWrite s s.hl.value (s.getR8 .A)) ∧ t.hl.value.toNat = n ∧ t.cost = 8 ∧
      KeepsAllBut { r8 := [.H, .L], accesses := [.write s.hl.value (s.getR8 .A)] } s t) ∧
    (∀ v, busRead s s.hl.value = .ok v → ∃ t, exec load s = .next t ∧ t.getR8 .A = v ∧ t.hl.value.toNat = n ∧ t.cost = 8 ∧
      KeepsAllBut { r8 := [.A, .H, .L], accesses := [.read s.hl.value] } s t) ∧
    (∀ f, busRead s s.hl.value = .error f → exec load s = .fault f) := by
  subst hn
  rw [hstore, hload]
  refine ⟨?_, fun v hv => ?_, fun f hf => loadAThenSetHL_aborts hf next⟩
  · obtain ⟨t, ht, hbus, hhl, hrest⟩ := storeAThenSetHL_completes next s
    exact ⟨t, ht, hbus, congrArg BitVec.toNat hhl, hrest⟩
  · obtain ⟨t, ht, hA, hhl, hrest⟩ := loadAThenSetHL_completes hv next
    exact ⟨t, ht, hA, congrArg BitVec.toNat hhl, hrest⟩

/-- Settles O30: both pairs use HL first and write it after; the step up and the step down wrap as the words do. -/
theorem accumulatorThroughHLThenStep : Obligations.AccumulatorThroughHLThenStep := by
  intro s store load storeByte loadByte next hmem
  have hinc : (s.hl.value + 1).toNat = (s.hl.value.toNat + 1) % 0x10000 := by bv_omega
  have hdec : (s.hl.value - 1).toNat = (s.hl.value.toNat + 0xFFFF) % 0x10000 := by bv_omega
  simp only [List.mem_cons, Prod.mk.injEq, List.not_mem_nil, or_false] at hmem
  obtain ⟨rfl, rfl, rfl, rfl, hnext⟩ | ⟨rfl, rfl, rfl, rfl, hnext⟩ := hmem
  · exact ⟨rfl, rfl, accumulatorThenSetHL_of_exec (hinc.trans hnext.symm) rfl rfl⟩
  · exact ⟨rfl, rfl, accumulatorThenSetHL_of_exec (hdec.trans hnext.symm) rfl rfl⟩

end Sys2Proof.Machine

end

/-! ## Increment and decrement (42_incdec.md R150 to R155) -/

section

namespace Sys2Proof.Machine

/-! ### The flags on plain numbers (R150, R152) -/

theorem incFlags_z (v : Byte) (carry : Bool) : (incFlags v carry).z = decide (v.toNat = 0xFF) :=
  decide_eq_decide.2 (by bv_omega)

theorem incFlags_h (v : Byte) (carry : Bool) : (incFlags v carry).h = decide (v.toNat % 0x10 = 0xF) := rfl

theorem decFlags_z (v : Byte) (carry : Bool) : (decFlags v carry).z = decide (v.toNat = 1) :=
  decide_eq_decide.2 (by bv_omega)

theorem decFlags_h (v : Byte) (carry : Bool) : (decFlags v carry).h = decide (v.toNat % 0x10 = 0) := rfl

theorem flagsAre_setFlags_incFlags (s : State) (v : Byte) (carry : Bool) (n : Nat) :
    FlagsAre ((s.setFlags (incFlags v carry)).setCost n) (decide (v.toNat = 0xFF)) false (decide (v.toNat % 0x10 = 0xF)) carry := by
  rw [← incFlags_z v carry, ← incFlags_h v carry]
  exact flagsAre_setFlags s (incFlags v carry) n

theorem flagsAre_setFlags_decFlags (s : State) (v : Byte) (carry : Bool) (n : Nat) :
    FlagsAre ((s.setFlags (decFlags v carry)).setCost n) (decide (v.toNat = 1)) true (decide (v.toNat % 0x10 = 0)) carry := by
  rw [← decFlags_z v carry, ← decFlags_h v carry]
  exact flagsAre_setFlags s (decFlags v carry) n

/-! ### A register (R150, R152) -/

theorem setR8_setFlags_keepsAllBut (s : State) (r : Reg8) (v : Byte) (f : Flags) (n : Nat) :
    KeepsAllBut { r8 := [r], flags := true } s (((s.setR8 r v).setFlags f).setCost n) :=
  (((KeepsAllBut.refl s).setR8 (List.mem_singleton_self r) v).setFlags rfl f).setCost n

/-- Settles O36: the register written, then the flags, then the cost. -/
theorem incrementDecrementRegister : Obligations.IncrementDecrementRegister := by
  intro r s
  have hinc : (s.getR8 r + 1).toNat = ((s.getR8 r).toNat + 1) % 0x100 := by bv_omega
  have hdec : (s.getR8 r - 1).toNat = ((s.getR8 r).toNat + 0xFF) % 0x100 := by bv_omega
  rw [← hinc, ← hdec]
  refine ⟨by cases r <;> rfl, by cases r <;> rfl, ⟨_, exec_incReg r s, by simp, flagsAre_setFlags_incFlags _ _ _ 4, rfl, ?_⟩,
    ⟨_, exec_decReg r s, by simp, flagsAre_setFlags_decFlags _ _ _ 4, rfl, ?_⟩⟩
  · exact setR8_setFlags_keepsAllBut s r (s.getR8 r + 1) _ 4
  · exact setR8_setFlags_keepsAllBut s r (s.getR8 r - 1) _ 4

/-! ### Memory at HL (R151, R153) -/

/-- A byte read and then a byte stored at one address: a frame may start from both (R60). -/
theorem busWrite_noteRead_keepsAllBut {w : Touch} (s : State) (a : Word) (v : Byte)
    (hw : w.accesses = [.read a, .write a v] := by rfl) : KeepsAllBut w s (busWrite (s.noteRead a) a v) := by
  have hmem : KeepsMemory [a] s (busWrite (s.noteRead a) a v) := by
    refine (KeepsMemory.busWrite (s.noteRead a) a v).afterRead fun h => ?_
    rw [busWrite_platBehaviour, State.noteRead_platBehaviour] at h
    exact PlatBehaviour.note_of_note_note h
  refine ⟨?_, ?_, ?_, ?_, ?_, ?_, ?_, ?_, ?_, ?_, ?_, by rw [hw]; exact hmem⟩ <;> simp [hw]

/-- What a read notes makes no difference to the store after it. -/
theorem SameBus.busWrite_noteRead (s : State) (a b : Word) (v : Byte) :
    SameBus (busWrite (s.noteRead a) b v) (busWrite s b v) :=
  (SameBus.noteRead s a).write rfl (by simp) b v

/-- Settles O37: the byte at HL read, its successor or predecessor stored there, then the flags and the cost. -/
theorem incrementDecrementAtHL : Obligations.IncrementDecrementAtHL := by
  refine ⟨rfl, rfl, fun s v hv => ?_⟩
  have hinc : BitVec.ofNat 8 (v.toNat + 1) = v + 1 := by bv_omega
  have hdec : BitVec.ofNat 8 (v.toNat + 0xFF) = v - 1 := by bv_omega
  rw [hinc, hdec]
  refine ⟨⟨_, withByte_ok hv _, SameBus.busWrite_noteRead s _ _ _, flagsAre_setFlags_incFlags _ v s.fC 12, rfl, ?_⟩,
    ⟨_, withByte_ok hv _, SameBus.busWrite_noteRead s _ _ _, flagsAre_setFlags_decFlags _ v s.fC 12, rfl, ?_⟩⟩
  · exact ((busWrite_noteRead_keepsAllBut s s.hl.value (v + 1)).setFlags rfl _).setCost 12
  · exact ((busWrite_noteRead_keepsAllBut s s.hl.value (v - 1)).setFlags rfl _).setCost 12

/-! ### A pair (R154, R155) -/

theorem loadPair_completes (p : Reg16) (v : Word) (n : Nat) (s : State) :
    ∃ t, loadPair p v n s = .next t ∧ t.getR16 p = v ∧ t.cost = n ∧
      KeepsAllBut { r8 := halves p, sp := decide (p = .SP) } s t :=
  ⟨_, rfl, s.getR16_setR16_same p v, rfl,
    ((KeepsAllBut.refl s).setR16 (List.Subset.refl _) decide_eq_true v).setCost n⟩

/-- Settles O38: both are `loadPair`, and the step up and the step down wrap as the words do. -/
theorem incrementDecrementPair : Obligations.IncrementDecrementPair := by
  intro p s
  have hinc : (s.getR16 p + 1).toNat = ((s.getR16 p).toNat + 1) % 0x10000 := by bv_omega
  have hdec : (s.getR16 p - 1).toNat = ((s.getR16 p).toNat + 0xFFFF) % 0x10000 := by bv_omega
  rw [exec_incPair, exec_decPair, ← hinc, ← hdec]
  refine ⟨by cases p <;> rfl, by cases p <;> rfl, ?_, ?_⟩
  · obtain ⟨t, ht, hp, hrest⟩ := loadPair_completes p (s.getR16 p + 1) 8 s
    exact ⟨t, ht, congrArg BitVec.toNat hp, hrest⟩
  · obtain ⟨t, ht, hp, hrest⟩ := loadPair_completes p (s.getR16 p - 1) 8 s
    exact ⟨t, ht, congrArg BitVec.toNat hp, hrest⟩

end Sys2Proof.Machine

end

/-! ## Control transfer (43_control.md R160 to R171) -/

section

namespace Sys2Proof.Machine

/-! ### Frames: PC or IME written (R60) -/

section

variable {w : Touch} {s t : State}

/-- Once PC is written a frame names it too. -/
theorem KeepsAllBut.setPc (h : KeepsAllBut w s t) (v : Word) : KeepsAllBut { w with pc := true } s (t.setPc v) := by
  obtain ⟨hr, hsp, hf, _, hime, hhalted, htype, hcb, hvec, hagent, hplat, hmem⟩ := h
  exact ⟨by simpa using hr, hsp, hf, nofun, hime, hhalted, htype, hcb, hvec, hagent, hplat,
    hmem.sameBus (SameBus.refl t) rfl rfl rfl⟩

/-- Once IME is written a frame names it too. -/
theorem KeepsAllBut.setIme (h : KeepsAllBut w s t) (b : Bool) : KeepsAllBut { w with ime := true } s (t.setIme b) := by
  obtain ⟨hr, hsp, hf, hpc, _, hhalted, htype, hcb, hvec, hagent, hplat, hmem⟩ := h
  exact ⟨by simpa using hr, hsp, hf, hpc, nofun, hhalted, htype, hcb, hvec, hagent, hplat,
    hmem.sameBus (SameBus.refl t) rfl rfl rfl⟩

end

/-! ### A conditional form by its condition (R160) -/

section

variable {s : State} {c : Cond}

theorem branchIf_of_holds (h : holdsOf s c = true) (taken : Result) (n : Nat) : branchIf c taken n s = taken :=
  if_pos ((holdsOf_eq_cond s c).symm.trans h)

theorem branchIf_of_not_holds (h : holdsOf s c = false) (taken : Result) (n : Nat) :
    branchIf c taken n s = .next (s.setCost n) := by
  rw [branchIf, ← holdsOf_eq_cond, h, if_neg Bool.false_ne_true, finish_eq]

/-- Where the condition fails only the cost is new. -/
theorem branchIf_not_taken (h : holdsOf s c = false) (taken : Result) (n : Nat) :
    ∃ t, branchIf c taken n s = .next t ∧ t.cost = n ∧ KeepsAllBut {} s t :=
  ⟨_, branchIf_of_not_holds h taken n, rfl, (KeepsAllBut.refl s).setCost n⟩

end

/-! ### Jumps (R161 to R165) -/

theorem jumpTo_completes (target : Word) (n : Nat) (s : State) :
    ∃ t, jumpTo target n s = .next t ∧ t.pc = target ∧ t.cost = n ∧ KeepsAllBut { pc := true } s t :=
  ⟨_, rfl, rfl, rfl, ((KeepsAllBut.refl (w := {}) s).setPc target).setCost n⟩

theorem branchIf_jumpTo_completes (c : Cond) (target : Word) (n m : Nat) (s : State) :
    ∃ t, branchIf c (jumpTo target n s) m s = .next t ∧ t.pc = (if holdsOf s c then target else s.pc) ∧
      t.cost = (if holdsOf s c then n else m) ∧ KeepsAllBut { pc := true } s t := by
  cases h : holdsOf s c with
  | true => rw [branchIf_of_holds h]; exact jumpTo_completes target n s
  | false => exact ⟨_, branchIf_of_not_holds h _ m, rfl, rfl, (KeepsAllBut.refl s).setCost m⟩

/-- The word a displacement leads to from PC is determined by its number (R161). -/
theorem eq_relativeTarget {s : State} {e8 : Byte} {target : Word}
    (h : (target.toNat : Int) = ((s.pc.toNat : Int) + displacement e8) % 0x10000) : target = relativeTarget s e8 :=
  BitVec.eq_of_toNat_eq (Int.ofNat_inj.1 (h.trans (add_sext16_toNat s.pc e8).symm))

/-- Settles O39: each is `jumpTo`, under `branchIf` where there is a condition. -/
theorem jumps : Obligations.Jumps := by
  intro s e8 a16 target htarget
  obtain rfl := eq_relativeTarget htarget
  refine ⟨rfl, rfl, rfl, fun c => ⟨by cases c <;> rfl, by cases c <;> rfl⟩, jumpTo_completes _ 12 s, jumpTo_completes a16 16 s,
    jumpTo_completes _ 4 s, fun c => ?_⟩
  rw [exec_jrIf, exec_jpIf]
  exact ⟨branchIf_jumpTo_completes c _ 12 8 s, branchIf_jumpTo_completes c a16 16 12 s⟩

/-! ### Calls (R166, R167, R171) -/

theorem callTo_completes (target : Word) (n : Nat) (s : State) :
    ∃ t, callTo target n s = .next t ∧ t.pc = target ∧ t.sp.value = s.sp.value - 2 ∧ t.cost = n ∧
      SameBus t (busWrite (busWrite s (s.sp.value - 1) (hi8 s.pc)) (s.sp.value - 2) (lo8 s.pc)) ∧
      KeepsAllBut { pc := true, sp := true, accesses :=
        [.write (s.sp.value - 1) (hi8 s.pc), .write (s.sp.value - 2) (lo8 s.pc)] } s t := by
  have hsp : s.sp.value - 2 = s.sp.value - 1 - 1 := by bv_omega
  rw [hsp]
  exact ⟨_, rfl, rfl, by simp, rfl, push16_sameBus s s.pc, ((push16_keepsAllBut s s.pc).setPc target).setCost n⟩

/-- Settles O40: each that is taken is `callTo`. -/
theorem callsPushTheReturnAddress : Obligations.CallsPushTheReturnAddress := by
  refine fun s a16 => ⟨rfl, fun c => by cases c <;> rfl, fun n => by cases n <;> rfl, fun i target cycles hi => ?_, fun c hc => ?_⟩
  · obtain ⟨rfl, rfl, rfl⟩ | ⟨n, rfl, rfl, rfl⟩ | ⟨c, hc, rfl, rfl, rfl⟩ := hi
    · exact callTo_completes _ 24 s
    · rw [exec_rst]; exact callTo_completes _ 16 s
    · rw [exec_callIf, branchIf_of_holds hc]; exact callTo_completes _ 24 s
  · rw [exec_callIf]; exact branchIf_not_taken hc _ 12

/-! ### Returns (R168, R169, R170) -/

@[simp] theorem popped_sp_value (s : State) : (popped s).sp.value = s.sp.value + 2 := RegisterPair.value_ofWord _

theorem popped_setPc_keepsAllBut (s : State) (v : Word) :
    KeepsAllBut { pc := true, sp := true, accesses := [.read s.sp.value, .read (s.sp.value + 1)] } s ((popped s).setPc v) :=
  (popped_keepsAllBut (w := { sp := true, accesses := [.read s.sp.value, .read (s.sp.value + 1)] }) s).setPc v

section

variable {s : State} {lo hi : Byte} (hlo : busRead s s.sp.value = .ok lo)
  (hhi : busRead (s.noteRead s.sp.value) (s.sp.value + 1) = .ok hi)

include hlo hhi

theorem returnTo_completes (n : Nat) :
    ∃ t, returnTo n s = .next t ∧ t.pc = joinBytes hi lo ∧ t.sp.value = s.sp.value + 2 ∧ t.cost = n ∧
      KeepsAllBut { pc := true, sp := true, accesses := [.read s.sp.value, .read (s.sp.value + 1)] } s t :=
  ⟨_, withPop_of_busRead hlo hhi _, rfl, popped_sp_value s, rfl, (popped_setPc_keepsAllBut s _).setCost n⟩

/-- `RETI` is a return that also sets IME (R170). -/
theorem exec_reti_completes :
    ∃ t, exec .reti s = .next t ∧ t.pc = joinBytes hi lo ∧ t.sp.value = s.sp.value + 2 ∧ t.ime = true ∧ t.cost = 16 ∧
      KeepsAllBut { pc := true, sp := true, ime := true, accesses := [.read s.sp.value, .read (s.sp.value + 1)] } s t :=
  ⟨_, withPop_of_busRead hlo hhi _, rfl, popped_sp_value s, rfl, rfl, ((popped_setPc_keepsAllBut s _).setIme true).setCost 16⟩

end

/-- Settles O41: each that is taken pops PC. -/
theorem returnsPopTheProgramCounter : Obligations.ReturnsPopTheProgramCounter := by
  refine ⟨rfl, rfl, fun c => by cases c <;> rfl, fun s lo hi hlo hhi => ⟨?_, ?_, fun c hc => ?_⟩, fun s c hc => ?_⟩
  · exact returnTo_completes hlo hhi 16
  · exact exec_reti_completes hlo hhi
  · rw [exec_retIf, branchIf_of_holds hc]; exact returnTo_completes hlo hhi 20
  · rw [exec_retIf]; exact branchIf_not_taken hc _ 8

end Sys2Proof.Machine

end

/-! ## Arithmetic and logic (44_alu.md R180 to R191) -/

section

namespace Sys2Proof.Machine

/-! ### The source of an accumulator operation (R180) -/

/-- `s` after the source is taken: a read of (HL) is noted. -/
def sourced (s : State) : AluSrc → State
  | .atHL => s.noteRead s.hl.value
  | .reg _ | .imm _ => s

theorem withSource_of_sourceByte {s : State} {src : AluSrc} {v : Byte} (h : sourceByte s src = .ok v)
    (k : Byte → State → Result) : withSource s src k = k v (sourced s src) := by
  cases src with
  | atHL => exact withByte_ok h k
  | reg _ | imm _ => cases h; rfl

@[simp] theorem getR8_sourced (s : State) (src : AluSrc) (r : Reg8) : (sourced s src).getR8 r = s.getR8 r := by
  cases src with
  | atHL => exact s.getR8_noteRead _ r
  | reg _ | imm _ => rfl

@[simp] theorem fC_sourced (s : State) (src : AluSrc) : (sourced s src).fC = s.fC := by cases src <;> rfl

theorem sourced_keepsAllBut {w : Touch} (s : State) (src : AluSrc) (hw : w.accesses = sourceAccesses s src := by rfl) :
    KeepsAllBut w s (sourced s src) := by
  cases src with
  | atHL => exact noteRead_keepsAllBut s _ hw
  | reg _ | imm _ => exact KeepsAllBut.refl s hw

/-! ### An accumulator operation is a result, flags and a cost (R181 to R188) -/

/-- The byte an accumulator operation leaves in A (R181 to R188). -/
def aluResult (a v : Byte) (cin : Bool) : AluOp → Byte
  | .ADD => a + v
  | .ADC => adcResult a v cin
  | .SUB => a - v
  | .SBC => sbcResult a v cin
  | .AND => a &&& v
  | .XOR => a ^^^ v
  | .OR => a ||| v
  | .CP => a

/-- The flags of an accumulator operation (R181 to R188). -/
def aluFlags (a v : Byte) (cin : Bool) : AluOp → Flags
  | .ADD => addFlags a v
  | .ADC => adcFlags a v cin
  | .SUB | .CP => subFlags a v
  | .SBC => sbcFlags a v cin
  | .AND => andFlags (a &&& v)
  | .XOR => orFlags (a ^^^ v)
  | .OR => orFlags (a ||| v)

theorem applyAlu_eq (op : AluOp) (v : Byte) (s : State) :
    applyAlu op v s = (s.setR8 .A (aluResult (s.getR8 .A) v s.fC op)).setFlags (aluFlags (s.getR8 .A) v s.fC op) := by
  cases op <;> rfl

/-- `s` after an accumulator operation on the source byte `v`. -/
def afterAlu (op : AluOp) (src : AluSrc) (v : Byte) (s : State) : State :=
  (((sourced s src).setR8 .A (aluResult (s.getR8 .A) v s.fC op)).setFlags (aluFlags (s.getR8 .A) v s.fC op)).setCost (aluCost src)

theorem exec_alu_of_sourceByte (op : AluOp) {src : AluSrc} {s : State} {v : Byte} (h : sourceByte s src = .ok v) :
    exec (Instr.alu op src) s = .next (afterAlu op src v s) := by
  rw [exec_alu, accumulate, withSource_of_sourceByte h, finish_eq, applyAlu_eq, getR8_sourced, fC_sourced, afterAlu]

theorem encode_alu (op : AluOp) (src : AluSrc) : encode (Instr.alu op src) = aluBytes op src := by
  cases src with
  | reg r => cases op <;> cases r <;> rfl
  | atHL | imm d8 => cases op <;> rfl

section

variable (op : AluOp) (src : AluSrc) (v : Byte) (s : State)

@[simp] theorem afterAlu_getR8_A : (afterAlu op src v s).getR8 .A = aluResult (s.getR8 .A) v s.fC op := rfl

theorem afterAlu_flagsAre :
    FlagsAre (afterAlu op src v s) (aluFlags (s.getR8 .A) v s.fC op).z (aluFlags (s.getR8 .A) v s.fC op).n
      (aluFlags (s.getR8 .A) v s.fC op).h (aluFlags (s.getR8 .A) v s.fC op).c :=
  flagsAre_setFlags _ _ _

theorem afterAlu_cost : (afterAlu op src v s).cost = match src with | .reg _ => 4 | _ => 8 := by cases src <;> rfl

theorem afterAlu_keepsAllBut :
    KeepsAllBut { r8 := [.A], flags := true, accesses := sourceAccesses s src } s (afterAlu op src v s) :=
  (((sourced_keepsAllBut s src).setR8 (List.mem_singleton_self _) _).setFlags rfl _).setCost _

end

/-! ### Addition and subtraction on plain numbers (R181 to R184, R188) -/

theorem byte_eq_zero_iff (v : Byte) : v = 0 ↔ v.toNat = 0 := BitVec.toNat_inj.symm

theorem carryIn_le_one (cin : Bool) : carryIn cin ≤ 1 := by cases cin <;> decide

theorem adcResult_toNat (a v : Byte) (cin : Bool) :
    (adcResult a v cin).toNat = (a.toNat + v.toNat + carryIn cin) % 0x100 := BitVec.toNat_ofNat _ 8

theorem adcFlags_z (a v : Byte) (cin : Bool) :
    (adcFlags a v cin).z = decide ((a.toNat + v.toNat + carryIn cin) % 0x100 = 0) :=
  decide_eq_decide.2 (by rw [byte_eq_zero_iff, adcResult_toNat])

theorem sbcResult_toNat (a v : Byte) (cin : Bool) :
    (sbcResult a v cin).toNat = (a.toNat + 0x200 - v.toNat - carryIn cin) % 0x100 := by
  have hcin := carryIn_le_one cin
  rw [sbcResult]
  bv_omega

theorem sbcFlags_z (a v : Byte) (cin : Bool) :
    (sbcFlags a v cin).z = decide ((a.toNat + 0x200 - v.toNat - carryIn cin) % 0x100 = 0) :=
  decide_eq_decide.2 (by rw [byte_eq_zero_iff, sbcResult_toNat])

theorem sbcFlags_h (a v : Byte) (cin : Bool) : (sbcFlags a v cin).h =
    decide (a.toNat % 0x10 < (a.toNat + 0x200 - v.toNat - carryIn cin) % 0x10 + carryIn cin) := by
  simp only [sbcFlags, lowNibble, sbcResult_toNat]
  rw [Nat.mod_mod_of_dvd _ (by decide)]

/-- `ADD` is `ADC` without a carry. -/
theorem add_eq_adcResult (a v : Byte) : a + v = adcResult a v false :=
  BitVec.eq_of_toNat_eq (BitVec.toNat_add a v |>.trans (adcResult_toNat a v false).symm)

theorem addFlags_eq_adcFlags (a v : Byte) : addFlags a v = adcFlags a v false := by
  simp [addFlags, adcFlags, ← add_eq_adcResult, carryIn]

/-- `SUB` is `SBC` without a carry. -/
theorem sub_eq_sbcResult (a v : Byte) : a - v = sbcResult a v false := (BitVec.sub_zero _).symm

theorem subFlags_eq_sbcFlags (a v : Byte) : subFlags a v = sbcFlags a v false := by
  simp [subFlags, sbcFlags, ← sub_eq_sbcResult, carryIn]

theorem aluResult_aluFlags_of_addition {s : State} {op : AluOp} {n : Nat}
    (h : (op, n) ∈ [(AluOp.ADD, 0), (AluOp.ADC, carryOf s)]) : ∃ cin, carryIn cin = n ∧
      ∀ a v, aluResult a v s.fC op = adcResult a v cin ∧ aluFlags a v s.fC op = adcFlags a v cin := by
  simp only [List.mem_cons, Prod.mk.injEq, List.not_mem_nil, or_false] at h
  obtain ⟨rfl, rfl⟩ | ⟨rfl, rfl⟩ := h
  · exact ⟨false, rfl, fun a v => ⟨add_eq_adcResult a v, addFlags_eq_adcFlags a v⟩⟩
  · exact ⟨s.fC, rfl, fun a v => ⟨rfl, rfl⟩⟩

theorem aluResult_aluFlags_of_subtraction {s : State} {op : AluOp} {n : Nat}
    (h : (op, n) ∈ [(AluOp.SUB, 0), (AluOp.SBC, carryOf s), (AluOp.CP, 0)]) : ∃ cin, carryIn cin = n ∧
      ∀ a v, aluResult a v s.fC op = (if op = .CP then a else sbcResult a v cin) ∧
        aluFlags a v s.fC op = sbcFlags a v cin := by
  simp only [List.mem_cons, Prod.mk.injEq, List.not_mem_nil, or_false] at h
  obtain ⟨rfl, rfl⟩ | ⟨rfl, rfl⟩ | ⟨rfl, rfl⟩ := h
  · exact ⟨false, rfl, fun a v => ⟨sub_eq_sbcResult a v, subFlags_eq_sbcFlags a v⟩⟩
  · exact ⟨s.fC, rfl, fun a v => ⟨rfl, rfl⟩⟩
  · exact ⟨false, rfl, fun a v => ⟨rfl, subFlags_eq_sbcFlags a v⟩⟩

/-- Settles O42: both are an addition with a carry, which `ADD` takes as clear. -/
theorem addWithAndWithoutCarry : Obligations.AddWithAndWithoutCarry := by
  rintro s src v _ n op hv rfl hop
  obtain ⟨cin, rfl, hadc⟩ := aluResult_aluFlags_of_addition hop
  obtain ⟨hresult, hflags⟩ := hadc (s.getR8 .A) v
  refine ⟨encode_alu op src, _, exec_alu_of_sourceByte op hv, ?_, ?_, afterAlu_cost op src v s, afterAlu_keepsAllBut op src v s⟩
  · rw [afterAlu_getR8_A, hresult, adcResult_toNat]
  · rw [← adcFlags_z]
    have hf := afterAlu_flagsAre op src v s
    rwa [hflags] at hf

/-- Settles O43: each has the flags of a subtraction with a carry, which `SUB` and `CP` take as clear; `CP` leaves A. -/
theorem subtractAndCompare : Obligations.SubtractAndCompare := by
  rintro s src v _ n op hv rfl hop
  obtain ⟨cin, rfl, hsbc⟩ := aluResult_aluFlags_of_subtraction hop
  obtain ⟨hresult, hflags⟩ := hsbc (s.getR8 .A) v
  refine ⟨encode_alu op src, _, exec_alu_of_sourceByte op hv, ?_, ?_, afterAlu_cost op src v s, afterAlu_keepsAllBut op src v s⟩
  · rw [afterAlu_getR8_A, hresult, apply_ite BitVec.toNat, sbcResult_toNat]
  · rw [← sbcFlags_z, ← sbcFlags_h]
    have hf := afterAlu_flagsAre op src v s
    rwa [hflags] at hf

/-! ### Logic (R185 to R187) -/

/-- Settles O44: each is one operation on every bit, with Z from the byte left in A. -/
theorem logicOperations : Obligations.LogicOperations := by
  refine fun s src v hv => ⟨fun op _ => encode_alu op src, ?_, ?_, ?_⟩
  · exact ⟨_, exec_alu_of_sourceByte .AND hv, fun _ => BitVec.getLsbD_and, afterAlu_flagsAre .AND src v s,
      afterAlu_cost .AND src v s, afterAlu_keepsAllBut .AND src v s⟩
  · exact ⟨_, exec_alu_of_sourceByte .XOR hv, fun _ => BitVec.getLsbD_xor, afterAlu_flagsAre .XOR src v s,
      afterAlu_cost .XOR src v s, afterAlu_keepsAllBut .XOR src v s⟩
  · exact ⟨_, exec_alu_of_sourceByte .OR hv, fun _ => BitVec.getLsbD_or, afterAlu_flagsAre .OR src v s,
      afterAlu_cost .OR src v s, afterAlu_keepsAllBut .OR src v s⟩

/-! ### ADD HL,rr (R189) -/

/-- Settles O46: HL written with the sum, then the flags and the cost. -/
theorem addPairToHL : Obligations.AddPairToHL := by
  refine fun p s => ⟨by cases p <;> rfl, _, exec_addHL p s, ?_, flagsAre_setFlags _ _ 8, rfl, ?_⟩
  · exact (congrArg BitVec.toNat (RegisterPair.value_ofWord _)).trans (BitVec.toNat_add _ _)
  · exact (((KeepsAllBut.refl s).setR16 (p := .HL) (List.Subset.refl _) nofun _).setFlags rfl _).setCost 8

/-! ### DAA (R191) -/

/-- The two adjustments have no bit in common, so they add. -/
theorem daaAdjust_toNat (a : Byte) (f : Flags) :
    (daaAdjust a f).toNat = (if daaLow a f then 0x06 else 0) + (if daaHigh a f then 0x60 else 0) := by
  unfold daaAdjust
  cases daaLow a f <;> cases daaHigh a f <;> rfl

theorem daaLow_iff (a : Byte) (f : Flags) : daaLow a f = true ↔ f.h = true ∨ f.n = false ∧ a.toNat % 0x10 > 9 := by
  simp [daaLow, lowNibble]

theorem daaHigh_iff (a : Byte) (f : Flags) : daaHigh a f = true ↔ f.c = true ∨ f.n = false ∧ a.toNat > 0x99 := by
  simp [daaHigh]

theorem daaResult_toNat {a : Byte} {f : Flags} {low high : Nat}
    (hlow : low = if f.h = true ∨ f.n = false ∧ a.toNat % 0x10 > 9 then 0x06 else 0)
    (hhigh : high = if f.c = true ∨ f.n = false ∧ a.toNat > 0x99 then 0x60 else 0) :
    (daaResult a f).toNat = (if f.n = true then a.toNat + 0x100 - low - high else a.toNat + low + high) % 0x100 := by
  have hadjust : (daaAdjust a f).toNat = low + high := by
    simp only [daaAdjust_toNat, daaLow_iff, daaHigh_iff, hlow, hhigh]
  have hle : low + high ≤ 0x66 := by rw [hlow, hhigh]; split <;> split <;> decide
  rw [daaResult]
  split
  · rw [BitVec.toNat_sub, hadjust]; omega
  · rw [BitVec.toNat_add, hadjust, Nat.add_assoc]

theorem daaFlags_c (a : Byte) (f : Flags) : (daaFlags a f).c = (f.c || (!f.n && decide (a.toNat > 0x99))) := by
  cases hn : f.n <;> simp [daaFlags, daaHigh, hn]

/-- Settles O47: A written with the adjusted byte, then the flags and the cost. -/
theorem decimalAdjust : Obligations.DecimalAdjust := by
  rintro s _ low high rfl hlow hhigh
  refine ⟨rfl, _, rfl, daaResult_toNat (f := s.flags) hlow hhigh, ?_, rfl, setR8_setFlags_keepsAllBut s .A _ _ 4⟩
  exact daaFlags_c (s.getR8 .A) s.flags ▸ flagsAre_setFlags _ _ 4

/-! ### DAA after an addition or a subtraction (R181, R183, R191) -/

theorem daaLow_add (a v : Byte) : daaLow (a + v) (addFlags a v) = decide (a.toNat % 0x10 + v.toNat % 0x10 > 9) := by
  have hnibble : (a + v).toNat % 0x10 = (a.toNat % 0x10 + v.toNat % 0x10) % 0x10 := by rw [BitVec.toNat_add]; omega
  rw [Bool.eq_iff_iff, daaLow_iff, hnibble]
  simp only [addFlags, decide_eq_true_eq, true_and]
  unfold lowNibble
  omega

theorem daaHigh_add (a v : Byte) : daaHigh (a + v) (addFlags a v) = decide (a.toNat + v.toNat > 0x99) := by
  rw [Bool.eq_iff_iff, daaHigh_iff, BitVec.toNat_add]
  simp only [addFlags, decide_eq_true_eq, true_and]
  omega

theorem daaLow_sub (a v : Byte) : daaLow (a - v) (subFlags a v) = decide (a.toNat % 0x10 < v.toNat % 0x10) := by
  have hnibble : (a - v).toNat % 0x10 = (a.toNat % 0x10 + 0x10 - v.toNat % 0x10) % 0x10 := by rw [BitVec.toNat_sub]; omega
  rw [Bool.eq_iff_iff, daaLow_iff]
  simp only [subFlags, lowNibble, hnibble, decide_eq_true_eq, Bool.true_eq_false, false_and, or_false]
  omega

theorem daaHigh_sub (a v : Byte) : daaHigh (a - v) (subFlags a v) = decide (a.toNat < v.toNat) := by
  rw [Bool.eq_iff_iff, daaHigh_iff]
  simp only [subFlags, decide_eq_true_eq, gt_iff_lt, Bool.true_eq_false, false_and, or_false]

theorem daaResult_add_toNat (a v : Byte) : (daaResult (a + v) (addFlags a v)).toNat =
    (a.toNat + v.toNat + (if a.toNat % 0x10 + v.toNat % 0x10 > 9 then 0x06 else 0) +
      (if a.toNat + v.toNat > 0x99 then 0x60 else 0)) % 0x100 := by
  have hresult : daaResult (a + v) (addFlags a v) = a + v + daaAdjust (a + v) (addFlags a v) := rfl
  rw [hresult, BitVec.toNat_add, BitVec.toNat_add, daaAdjust_toNat, daaLow_add, daaHigh_add, Nat.mod_add_mod, ← Nat.add_assoc]
  simp only [decide_eq_true_eq]

theorem daaResult_sub_toNat (a v : Byte) : (daaResult (a - v) (subFlags a v)).toNat =
    (a.toNat + 0x200 - v.toNat - (if a.toNat % 0x10 < v.toNat % 0x10 then 0x06 else 0) -
      (if a.toNat < v.toNat then 0x60 else 0)) % 0x100 := by
  have hresult : daaResult (a - v) (subFlags a v) = a - v - daaAdjust (a - v) (subFlags a v) := rfl
  rw [hresult, BitVec.toNat_sub, BitVec.toNat_sub, daaAdjust_toNat, daaLow_sub, daaHigh_sub]
  simp only [decide_eq_true_eq]
  split <;> split <;> omega

/-! ### Two packed decimal digits (R191) -/

theorem packed_toNat {n : Nat} (h : n < 100) : (packed n).toNat = n / 10 * 0x10 + n % 10 := by
  rw [packed, BitVec.toNat_ofNat]
  omega

theorem packed_toNat_mod {n : Nat} (h : n < 100) : (packed n).toNat % 0x10 = n % 10 := by
  rw [packed_toNat h]
  omega

section

variable {x y : Nat} (hx : x < 100) (hy : y < 100)

include hx hy

theorem packed_lt_packed_iff : (packed x).toNat < (packed y).toNat ↔ x < y := by
  rw [packed_toNat hx, packed_toNat hy]
  omega

/-- A packed sum passes 0x99 by its tens, or at nine tens by a carry of the low digits. -/
theorem packed_add_packed_gt_iff : (packed x).toNat + (packed y).toNat > 0x99 ↔ 100 ≤ x + y := by
  rw [packed_toNat hx, packed_toNat hy]
  rcases lt_trichotomy (x / 10 + y / 10) 9 with h | h | h <;> omega

theorem daaResult_add_packed :
    daaResult (packed x + packed y) (addFlags (packed x) (packed y)) = packed ((x + y) % 100) := by
  apply BitVec.eq_of_toNat_eq
  rw [daaResult_add_toNat, packed_toNat (Nat.mod_lt _ (by decide))]
  simp only [packed_toNat_mod hx, packed_toNat_mod hy, packed_add_packed_gt_iff hx hy]
  rw [packed_toNat hx, packed_toNat hy]
  split <;> split <;> omega

theorem daaResult_sub_packed :
    daaResult (packed x - packed y) (subFlags (packed x) (packed y)) = packed ((x + 100 - y) % 100) := by
  apply BitVec.eq_of_toNat_eq
  rw [daaResult_sub_toNat, packed_toNat (Nat.mod_lt _ (by decide))]
  simp only [packed_toNat_mod hx, packed_toNat_mod hy, packed_lt_packed_iff hx hy]
  rw [packed_toNat hx, packed_toNat hy]
  split <;> split <;> omega

theorem daaFlags_add_packed_c :
    (daaFlags (packed x + packed y) (addFlags (packed x) (packed y))).c = decide (100 ≤ x + y) :=
  (daaHigh_add _ _).trans (decide_eq_decide.2 (packed_add_packed_gt_iff hx hy))

theorem daaFlags_sub_packed_c :
    (daaFlags (packed x - packed y) (subFlags (packed x) (packed y))).c = decide (x < y) :=
  decide_eq_decide.2 (packed_lt_packed_iff hx hy)

end

theorem State.flags_setFlags (s : State) (f : Flags) : (s.setFlags f).flags = f := by simp [State.flags]

/-- `DAA` after an accumulator operation adjusts what that left in A by the flags it wrote. -/
theorem exec_daa_afterAlu (op : AluOp) (src : AluSrc) (v : Byte) (s : State) :
    ∃ u, exec .daa (afterAlu op src v s) = .next u ∧
      u.getR8 .A = daaResult (aluResult (s.getR8 .A) v s.fC op) (aluFlags (s.getR8 .A) v s.fC op) ∧
      u.fC = (daaFlags (aluResult (s.getR8 .A) v s.fC op) (aluFlags (s.getR8 .A) v s.fC op)).c := by
  have hflags : (afterAlu op src v s).flags = aluFlags (s.getR8 .A) v s.fC op := State.flags_setFlags _ _
  rw [← hflags, ← afterAlu_getR8_A op src v s]
  exact ⟨_, rfl, rfl, State.setFlags_fC _ _⟩

/-- Settles O48: the adjustment turns the binary sum or difference of two packed numbers into the packed one. -/
theorem packedDecimalArithmetic : Obligations.PackedDecimalArithmetic := by
  intro s x y hx hy hA
  constructor
  · obtain ⟨u, hu, huA, huC⟩ := exec_daa_afterAlu .ADD (.imm (packed y)) (packed y) s
    rw [hA] at huA huC
    exact ⟨_, u, exec_alu_of_sourceByte .ADD (src := .imm (packed y)) rfl, hu, huA.trans (daaResult_add_packed hx hy),
      huC.trans (daaFlags_add_packed_c hx hy)⟩
  · obtain ⟨u, hu, huA, huC⟩ := exec_daa_afterAlu .SUB (.imm (packed y)) (packed y) s
    rw [hA] at huA huC
    exact ⟨_, u, exec_alu_of_sourceByte .SUB (src := .imm (packed y)) rfl, hu, huA.trans (daaResult_sub_packed hx hy),
      huC.trans (daaFlags_sub_packed_c hx hy)⟩

end Sys2Proof.Machine

end

/-! ## Accumulator rotates and flag instructions (45_rotates_flags.md R200 to R207) -/

section

namespace Sys2Proof.Machine

/-! ### A rotate on plain numbers (R200, R223 to R230) -/

/-- Two fields side by side, as a sum. -/
theorem toNat_append_eq_add {m n : Nat} (x : BitVec m) (y : BitVec n) : (x ++ y).toNat = x.toNat * 2 ^ n + y.toNat := by
  rw [BitVec.toNat_append, ← Nat.shiftLeft_add_eq_or_of_lt y.isLt, Nat.shiftLeft_eq]

/-- The field of `len` bits from bit `i`, as a number. -/
theorem extractLsb'_toNat_eq_div_mod (v : Byte) (i len : Nat) :
    (v.extractLsb' i len).toNat = v.toNat / 2 ^ i % 2 ^ len := by
  rw [BitVec.extractLsb'_toNat, Nat.shiftRight_eq_div_pow]

theorem ofBool_toNat_eq_carryIn (cin : Bool) : (BitVec.ofBool cin).toNat = carryIn cin := by cases cin <;> rfl

theorem getLsbD_seven_eq_decide (v : Byte) : v.getLsbD 7 = decide (0x80 ≤ v.toNat) := BitVec.msb_eq_decide v

theorem getLsbD_zero_eq_decide (v : Byte) : v.getLsbD 0 = decide (v.toNat % 2 = 1) := Nat.testBit_zero v.toNat

/-- The result of every rotate, shift and swap is the number the spec gives: each is two fields side by side, and
the sums agree whether bit 7 is clear or set. -/
theorem rotate_toNat (op : RotOp) (v : Byte) (cin : Bool) :
    (rotate op v cin).1.toNat = (rotated op v.toNat (carryIn cin)).1 := by
  have hbit : v.toNat / 0x80 = 0 ∨ v.toNat / 0x80 = 1 := by omega
  have hcin := carryIn_le_one cin
  cases op
  all_goals
    simp only [rotate, rlc8, rrc8, rl8, rr8, sla8, sra8, swap8, srl8, rotated, toNat_append_eq_add,
      extractLsb'_toNat_eq_div_mod, ofBool_toNat_eq_carryIn, BitVec.ofNat_eq_ofNat, BitVec.toNat_ofNat, Nat.pow_zero, Nat.div_one]
    omega

/-- The bit moved out is bit 7 to the left, bit 0 to the right, and none by a swap. -/
theorem rotate_carry (op : RotOp) (v : Byte) (cin : Bool) :
    (rotate op v cin).2 = (rotated op v.toNat (carryIn cin)).2 := by
  cases op with
  | RLC | RL | SLA => exact getLsbD_seven_eq_decide v
  | RRC | RR | SRA | SRL => exact getLsbD_zero_eq_decide v
  | SWAP => rfl

theorem flagsAre_setFlags_rotFlags (s : State) (op : RotOp) (v : Byte) (cin : Bool) (n : Nat) :
    FlagsAre ((s.setFlags (rotFlags (rotate op v cin))).setCost n)
      (decide ((rotated op v.toNat (carryIn cin)).1 = 0)) false false (rotated op v.toNat (carryIn cin)).2 := by
  have hz : decide ((rotate op v cin).1 = 0) = decide ((rotated op v.toNat (carryIn cin)).1 = 0) :=
    decide_eq_decide.2 (by rw [byte_eq_zero_iff, rotate_toNat])
  rw [← hz, ← rotate_carry]
  exact flagsAre_setFlags s (rotFlags (rotate op v cin)) n

/-! ### The accumulator rotates (R201 to R204) -/

/-- What the four rotates of A share: A and the flags written as the spec's numbers say, at the cost of 4. -/
theorem rotateA_completes (op : RotOp) (s : State) :
    ∃ t, rotateA op s = .next t ∧ (t.getR8 .A).toNat = (rotated op (s.getR8 .A).toNat (carryOf s)).1 ∧
      FlagsAre t (decide ((rotated op (s.getR8 .A).toNat (carryOf s)).1 = 0)) false false
        (rotated op (s.getR8 .A).toNat (carryOf s)).2 ∧
      t.cost = 4 ∧ KeepsAllBut { r8 := [.A], flags := true } s t :=
  ⟨_, rfl, rotate_toNat op (s.getR8 .A) s.fC, flagsAre_setFlags_rotFlags _ op (s.getR8 .A) s.fC 4, rfl,
    setR8_setFlags_keepsAllBut s .A _ _ 4⟩

/-- Settles O49: each of the four is `rotateA` of its own operation. -/
theorem accumulatorRotates : Obligations.AccumulatorRotates := by
  intro s i op byte hmem
  simp only [List.mem_cons, Prod.mk.injEq, List.not_mem_nil, or_false] at hmem
  obtain ⟨rfl, rfl, rfl⟩ | ⟨rfl, rfl, rfl⟩ | ⟨rfl, rfl, rfl⟩ | ⟨rfl, rfl, rfl⟩ := hmem
  all_goals exact ⟨rfl, rotateA_completes _ s⟩

/-! ### CPL, SCF and CCF (R205 to R207) -/

theorem setFlags_keepsAllBut (s : State) (f : Flags) (n : Nat) :
    KeepsAllBut { flags := true } s ((s.setFlags f).setCost n) :=
  ((KeepsAllBut.refl s).setFlags rfl f).setCost n

/-- Settles O50: `CPL` writes A and the flags, `SCF` and `CCF` the flags only. -/
theorem flagInstructions : Obligations.FlagInstructions := by
  refine fun s => ⟨rfl, rfl, rfl, ?_, ?_, ?_⟩
  · have hcpl : (~~~s.getR8 .A).toNat = 0xFF - (s.getR8 .A).toNat := BitVec.toNat_not
    exact ⟨_, rfl, hcpl, flagsAre_setFlags _ _ 4, rfl, setR8_setFlags_keepsAllBut s .A _ _ 4⟩
  · exact ⟨_, rfl, flagsAre_setFlags s _ 4, rfl, setFlags_keepsAllBut s _ 4⟩
  · exact ⟨_, rfl, flagsAre_setFlags s _ 4, rfl, setFlags_keepsAllBut s _ 4⟩

end Sys2Proof.Machine

end

/-! ## System instructions and the unassigned values (46_system.md R210 to R216) -/

section

namespace Sys2Proof.Machine

/-! ### Words of the spec (R82, R88, R91) -/

/-- A word that is all the bytes of an instruction decodes to it. -/
theorem decode_of_encode_eq {i : Instr} {bs : List Byte} (he : encode i = bs) (hw : i.wellFormed = true) :
    decode bs = .ok (i, []) := by
  rw [← he, ← List.append_nil (encode i)]
  exact decodeEncodeRoundTrip i [] hw

/-- Settles O3: each word is the encoding of its instruction; `CB` alone lacks the byte its format counts. -/
theorem specWordsDecode : Obligations.SpecWordsDecode := by
  refine ⟨?_, ?_, ?_, ?_, ?_, ?_, ?_, ?_, ?_, rfl⟩
  all_goals exact decode_of_encode_eq rfl rfl

/-! ### The unassigned values (R90, R215, R216) -/

/-- Settles O6: the one byte read is all of the unassigned instruction's, so the step runs it with PC one past the byte. -/
theorem unassignedOpcodeAborts : Obligations.UnassignedOpcodeAborts := by
  refine ⟨fun s s' op hc hh hb hop => ?_, exec_unassigned⟩
  have hw : (Instr.unassigned op).wellFormed = true := List.contains_iff_mem.2 hop
  have hr : BytesRead s' s.pc (encode (.unassigned op)) (s'.noteRead s.pc) := by
    obtain ⟨agent, rfl⟩ := hc.eq
    exact ⟨hb, rfl⟩
  calc step s
      = exec (.unassigned op) ((s'.noteRead s.pc).setPc (s.pc + 1)) := stepRunsTheDecodedInstruction s s' _ _ hc hh hw hr
    _ = .fault (.undefinedOpcode op (s.pc + 1 - 1)) := exec_unassigned op _
    _ = .fault (.undefinedOpcode op s.pc) := by rw [BitVec.add_sub_cancel]

/-! ### NOP, HALT, DI and EI (R210 to R213) -/

/-- Once `halted` is written a frame names it too. -/
theorem KeepsAllBut.setHalted {w : Touch} {s t : State} (h : KeepsAllBut w s t) (b : Bool) :
    KeepsAllBut { w with halted := true } s (t.setHalted b) := by
  obtain ⟨hr, hsp, hf, hpc, hime, _, htype, hcb, hvec, hagent, hplat, hmem⟩ := h
  exact ⟨by simpa using hr, hsp, hf, hpc, hime, nofun, htype, hcb, hvec, hagent, hplat,
    hmem.sameBus (SameBus.refl t) rfl rfl rfl⟩

/-- What `DI` and `EI` share: IME written in this step, at the cost of 4 (R212, R213). -/
theorem finish_setIme_completes (b : Bool) (s : State) :
    ∃ t, finish 4 (s.setIme b) = .next t ∧ t.ime = b ∧ t.cost = 4 ∧ KeepsAllBut { ime := true } s t :=
  ⟨_, finish_eq 4 _, rfl, rfl, ((KeepsAllBut.refl (w := {}) s).setIme b).setCost 4⟩

/-- Settles O51: each writes one control bit or none, then the cost. -/
theorem systemInstructions : Obligations.SystemInstructions := by
  refine fun s => ⟨rfl, rfl, rfl, rfl, ?nop, ?halt, finish_setIme_completes false s, finish_setIme_completes true s⟩
  case nop => exact ⟨_, finish_eq 4 s, rfl, (KeepsAllBut.refl s).setCost 4⟩
  case halt => exact ⟨_, exec_halt s, rfl, rfl, ((KeepsAllBut.refl (w := {}) s).setHalted true).setCost 4⟩

end Sys2Proof.Machine

end

/-! ## The extended table (47_extended_cb.md R220 to R233) -/

section

namespace Sys2Proof

theorem Oct.toNat_lt (b : Oct) : b.toNat < 8 := by cases b <;> decide

end Sys2Proof

namespace Sys2Proof.Machine

/-! ### The second byte (R91, R220) -/

/-- The opcode byte of three fields, as the number the spec writes. -/
theorem opcodeOf_eq_opc (x : BitVec 2) (y z : Oct) : opcodeOf x y z = opc (0x40 * x.toNat + 8 * y.toNat + z.toNat) := by
  have hy := y.toNat_lt
  have hz := z.toNat_lt
  apply BitVec.eq_of_toNat_eq
  simp only [opcodeOf, opc, toNat_append_eq_add, BitVec.toNat_ofNat]
  omega

theorem zField_ofField (z : Oct) : zField (Operand8.ofField z) = z.toNat := by cases z <;> rfl

theorem xopField_ofField (y : Oct) : xopField (RotOp.ofField y) = y.toNat := by cases y <;> rfl

/-- An instruction of the extended table is CB and the byte of its three fields. -/
theorem encode_of_decodeExtended {i : Instr} {x : BitVec 2} {y z : Oct} (h : decodeExtended (opcodeOf x y z) = i) :
    encode i = [0xCB, opc (0x40 * x.toNat + 8 * y.toNat + z.toNat)] := by
  obtain ⟨_, he⟩ := encodesTo_decodeExtended (opcodeOf x y z)
  rw [← h, he, opcodeOf_eq_opc]

theorem encode_rot (op : RotOp) (o : Operand8) : encode (Instr.rot op o) = [0xCB, opc (8 * xopField op + zField o)] := by
  obtain ⟨y, rfl⟩ := RotOp.exists_ofField op
  obtain ⟨z, rfl⟩ := Operand8.exists_ofField o
  rw [xopField_ofField, zField_ofField, encode_of_decodeExtended (x := 0) (y := y) (z := z) (by simp [decodeExtended])]
  simp

theorem encode_bitOp (b : Oct) (o : Operand8) : encode (Instr.bitOp b o) = [0xCB, opc (0x40 + 8 * b.toNat + zField o)] := by
  obtain ⟨z, rfl⟩ := Operand8.exists_ofField o
  rw [zField_ofField]
  exact encode_of_decodeExtended (x := 1) (by simp [decodeExtended])

theorem encode_resOp (b : Oct) (o : Operand8) : encode (Instr.resOp b o) = [0xCB, opc (0x80 + 8 * b.toNat + zField o)] := by
  obtain ⟨z, rfl⟩ := Operand8.exists_ofField o
  rw [zField_ofField]
  exact encode_of_decodeExtended (x := 2) (by simp [decodeExtended])

theorem encode_setOp (b : Oct) (o : Operand8) : encode (Instr.setOp b o) = [0xCB, opc (0xC0 + 8 * b.toNat + zField o)] := by
  obtain ⟨z, rfl⟩ := Operand8.exists_ofField o
  rw [zField_ofField]
  exact encode_of_decodeExtended (x := 3) (by simp [decodeExtended])

/-! ### The operand read and written back (R220) -/

/-- `s` after the operand is taken: a read of (HL) is noted. -/
def operandTaken (s : State) : Operand8 → State
  | .reg _ => s
  | .atHL => s.noteRead s.hl.value

@[simp] theorem fC_operandTaken (s : State) (o : Operand8) : (operandTaken s o).fC = s.fC := by cases o <;> rfl

theorem withOperand_of_operandByte {s : State} {o : Operand8} {v : Byte} (h : operandByte s o = .ok v)
    (k : Byte → State → Result) : withOperand s o k = k v (operandTaken s o) := by
  cases o with
  | reg r => cases h; rfl
  | atHL => exact withByte_ok h k

theorem extendedCost_eq_costOf (o : Operand8) : extendedCost o = costOf o := by cases o <;> rfl

theorem operandTaken_keepsAllBut {w : Touch} (s : State) (o : Operand8) (hw : w.accesses = operandAccesses s o := by rfl) :
    KeepsAllBut w s (operandTaken s o) := by
  cases o with
  | reg r => exact KeepsAllBut.refl s hw
  | atHL => exact noteRead_keepsAllBut s _ hw

@[simp] theorem operandTouch_flags (s : State) (o : Operand8) (n : Nat) (flags : Bool) :
    (operandTouch s o n flags).flags = flags := by cases o <;> rfl

section

variable {s : State} {o : Operand8} {b : Byte} {n : Nat}

/-- The byte put back is where the operand was, by its number. -/
theorem operandIs_putOperand (hb : b.toNat = n) : OperandIs s (putOperand (operandTaken s o) o b) o n := by
  subst hb
  cases o with
  | reg r => exact congrArg BitVec.toNat (s.getR8_setR8_same r b)
  | atHL =>
    rw [OperandIs, BitVec.ofNat_toNat, BitVec.setWidth_eq]
    exact SameBus.busWrite_noteRead s _ _ b

theorem OperandIs.setCost {t : State} (h : OperandIs s t o n) (c : Nat) : OperandIs s (t.setCost c) o n := by
  cases o with
  | reg r => simpa [OperandIs] using h
  | atHL => exact h

theorem OperandIs.setFlags {t : State} (h : OperandIs s t o n) (f : Flags) : OperandIs s (t.setFlags f) o n := by
  cases o with
  | reg r => simpa [OperandIs] using h
  | atHL => exact h

theorem putOperand_keepsAllBut (hb : b.toNat = n) (flags : Bool) :
    KeepsAllBut (operandTouch s o n flags) s (putOperand (operandTaken s o) o b) := by
  subst hb
  cases o with
  | reg r => exact (KeepsAllBut.refl s).setR8 (List.mem_singleton_self r) b
  | atHL => exact busWrite_noteRead_keepsAllBut s s.hl.value b (by simp [operandTouch])

end

/-! ### The two modes (R221, R222) -/

theorem liveOrStub_of_stub {s : State} (h : s.cbMode = .stub) (o : Operand8) (live : State → Result) :
    liveOrStub o live s = .next (s.setCost (costOf o)) := by
  rw [liveOrStub, h, ← extendedCost_eq_costOf]
  rfl

/-! ### Rotates, shifts and swaps (R223 to R230) -/

/-- `RLC` is live in both modes, the other seven in mode silicon. -/
theorem exec_rot_of_live {op : RotOp} {s : State} (h : op = .RLC ∨ s.cbMode = .silicon) (o : Operand8) :
    exec (Instr.rot op o) s = rotateOperand op o s := by
  rw [exec_rot]
  split
  · rfl
  · next hne => exact liveOrStub_of_silicon (h.resolve_left hne) o _

theorem rotateOperand_of_operandByte {s : State} {o : Operand8} {v : Byte} (h : operandByte s o = .ok v) (op : RotOp) :
    rotateOperand op o s = .next (((putOperand (operandTaken s o) o (rotate op v s.fC).1).setFlags
      (rotFlags (rotate op v s.fC))).setCost (costOf o)) := by
  rw [rotateOperand, withOperand_of_operandByte h, fC_operandTaken, extendedCost_eq_costOf, finish_eq]

/-- Settles O52: a stub is its cost; live, the operand is taken, put back rotated, then the flags and the cost. -/
theorem extendedRotatesAndShifts : Obligations.ExtendedRotatesAndShifts := by
  refine fun s op o => ⟨encode_rot op o, fun hop hm => ?_, fun v hlive hv => ?_⟩
  · exact ⟨_, by rw [exec_rot, if_neg hop, liveOrStub_of_stub hm], rfl⟩
  · have hn : (rotate op v s.fC).1.toNat = (rotated op v.toNat (carryOf s)).1 := rotate_toNat op v s.fC
    exact ⟨_, (exec_rot_of_live hlive o).trans (rotateOperand_of_operandByte hv op),
      ((operandIs_putOperand hn).setFlags _).setCost _, flagsAre_setFlags_rotFlags _ op v s.fC _, rfl,
      ((putOperand_keepsAllBut hn true).setFlags (operandTouch_flags s o _ true) _).setCost _⟩

/-! ### One bit of a byte, on numbers (R231 to R233) -/

theorem bitOf_le_one (n b : Nat) : bitOf n b ≤ 1 := Nat.le_of_lt_succ (Nat.mod_lt _ (by decide))

theorem bitOf_toNat_eq_zero_iff (v : Byte) (b : Nat) : bitOf v.toNat b = 0 ↔ v.getLsbD b = false := by
  have hle := bitOf_le_one v.toNat b
  rw [← Bool.not_eq_true, ← bitOf_toNat_eq_one_iff]
  omega

theorem bitFlags_z (v : Byte) (b : Nat) (carry : Bool) : (bitFlags v b carry).z = decide (bitOf v.toNat b = 0) := by
  simp only [bitFlags, bitOf_toNat_eq_zero_iff, Bool.decide_eq_false]

theorem one_shiftLeft_toNat {b : Nat} (hb : b < 8) : ((1 : Byte) <<< b).toNat = 2 ^ b :=
  (BitVec.toNat_twoPow 8 b).trans (Nat.mod_eq_of_lt (Nat.pow_lt_pow_right (by decide) hb))

/-- What a byte has in common with the mask of bit `b` is the bit at its weight. -/
theorem and_one_shiftLeft_toNat (v : Byte) {b : Nat} (hb : b < 8) :
    (v &&& (1 : Byte) <<< b).toNat = bitOf v.toNat b * 2 ^ b := by
  have hand : v &&& (1 : Byte) <<< b = if v.getLsbD b then (1 : Byte) <<< b else 0 := BitVec.and_twoPow v b
  rw [hand]
  split
  · next h => rw [(bitOf_toNat_eq_one_iff v b).2 h, Nat.one_mul, one_shiftLeft_toNat hb]
  · next h => rw [(bitOf_toNat_eq_zero_iff v b).2 (Bool.eq_false_iff.2 h), Nat.zero_mul]; rfl

theorem resBit_and_one_shiftLeft (v : Byte) (b : Nat) : resBit v b &&& (1 : Byte) <<< b = 0 := by
  rw [resBit, BitVec.and_assoc, BitVec.not_and_self, BitVec.ofNat_eq_ofNat, BitVec.and_zero]

/-- A byte without bit `b`, and the bit at its weight, add to the byte: they have no bit in common. -/
theorem resBit_toNat_add (v : Byte) {b : Nat} (hb : b < 8) : (resBit v b).toNat + bitOf v.toNat b * 2 ^ b = v.toNat := by
  have hdisjoint : resBit v b &&& (v &&& (1 : Byte) <<< b) = 0 := by
    rw [BitVec.and_comm v, ← BitVec.and_assoc, resBit_and_one_shiftLeft, BitVec.ofNat_eq_ofNat, BitVec.zero_and]
  have hunion : resBit v b ||| (v &&& (1 : Byte) <<< b) = v := by
    rw [resBit, ← BitVec.and_or_distrib_left, BitVec.not_or_self, BitVec.and_allOnes]
  rw [← and_one_shiftLeft_toNat v hb, ← BitVec.toNat_add_of_and_eq_zero hdisjoint,
    BitVec.add_eq_or_of_and_eq_zero _ _ hdisjoint, hunion]

/-- A byte with bit `b` set is the byte without it and the weight of the bit. -/
theorem setBit_toNat_eq_resBit_add (v : Byte) {b : Nat} (hb : b < 8) : (setBit v b).toNat = (resBit v b).toNat + 2 ^ b := by
  have hunion : resBit v b ||| (1 : Byte) <<< b = setBit v b := by
    ext i
    simp only [resBit, setBit, BitVec.getElem_or, BitVec.getElem_and, BitVec.getElem_not]
    cases ((1 : Byte) <<< b)[i] <;> simp
  have hdisjoint := resBit_and_one_shiftLeft v b
  rw [← hunion, ← BitVec.add_eq_or_of_and_eq_zero _ _ hdisjoint, BitVec.toNat_add_of_and_eq_zero hdisjoint,
    one_shiftLeft_toNat hb]

theorem resBit_toNat (v : Byte) {b : Nat} (hb : b < 8) : (resBit v b).toNat = v.toNat - bitOf v.toNat b * 2 ^ b :=
  Nat.eq_sub_of_add_eq (resBit_toNat_add v hb)

theorem setBit_toNat (v : Byte) {b : Nat} (hb : b < 8) : (setBit v b).toNat = v.toNat + (1 - bitOf v.toNat b) * 2 ^ b :=
  calc (setBit v b).toNat
      = (resBit v b).toNat + (bitOf v.toNat b + (1 - bitOf v.toNat b)) * 2 ^ b := by
        rw [setBit_toNat_eq_resBit_add v hb, Nat.add_sub_of_le (bitOf_le_one _ b), Nat.one_mul]
    _ = (resBit v b).toNat + bitOf v.toNat b * 2 ^ b + (1 - bitOf v.toNat b) * 2 ^ b := by rw [Nat.add_mul, Nat.add_assoc]
    _ = v.toNat + (1 - bitOf v.toNat b) * 2 ^ b := by rw [resBit_toNat_add v hb]

/-! ### BIT, RES and SET (R231 to R233) -/

/-- A bit operation in mode stub (R222). -/
theorem exec_bitOperations_of_stub {s : State} (hm : s.cbMode = .stub) {b : Oct} {o : Operand8} {i : Instr}
    (hi : i ∈ [Instr.bitOp b o, Instr.resOp b o, Instr.setOp b o]) : exec i s = .next (s.setCost (costOf o)) := by
  simp only [List.mem_cons, List.not_mem_nil, or_false] at hi
  obtain rfl | rfl | rfl := hi
  · rw [exec_bitOp, liveOrStub_of_stub hm]
  · rw [exec_resOp, liveOrStub_of_stub hm]
  · rw [exec_setOp, liveOrStub_of_stub hm]

/-- What `RES` and `SET` share: the operand is taken, a byte put back, and the cost returned; no flag changes. -/
theorem putBack_completes {s : State} {o : Operand8} {v : Byte} (hv : operandByte s o = .ok v) {f : Byte → Byte} {n : Nat}
    (hn : (f v).toNat = n) :
    ∃ t, (withOperand s o fun v s1 => finish (extendedCost o) (putOperand s1 o (f v))) = .next t ∧ OperandIs s t o n ∧
      t.cost = costOf o ∧ KeepsAllBut (operandTouch s o n false) s t :=
  ⟨_, withOperand_of_operandByte hv _, (operandIs_putOperand hn).setCost _, extendedCost_eq_costOf o,
    (putOperand_keepsAllBut hn false).setCost _⟩

/-- Settles O53: a stub is its cost; live, `BIT` takes the operand and writes flags, `RES` and `SET` put it back changed. -/
theorem extendedBitOperations : Obligations.ExtendedBitOperations := by
  refine fun s b o => ⟨encode_bitOp b o, encode_resOp b o, encode_setOp b o,
    fun i hi hm => ⟨_, exec_bitOperations_of_stub hm hi, rfl⟩, fun v hm hv => ?_⟩
  rw [exec_bitOp, exec_resOp, exec_setOp, liveOrStub_of_silicon hm, liveOrStub_of_silicon hm, liveOrStub_of_silicon hm,
    ← bitFlags_z v b.toNat s.fC]
  refine ⟨⟨_, withOperand_of_operandByte hv _, ?_, extendedCost_eq_costOf o, ?_⟩,
    putBack_completes hv (resBit_toNat v b.toNat_lt), putBack_completes hv (setBit_toNat v b.toNat_lt)⟩
  · rw [fC_operandTaken]
    exact flagsAre_setFlags _ (bitFlags v b.toNat s.fC) _
  · exact ((operandTaken_keepsAllBut s o).setFlags rfl _).setCost _

end Sys2Proof.Machine

end

/-! ## The aborts of a step, interrupts, and the halted stall (60_exceptions.md R241 to R257, 70_reset_and_hazards.md R284, R285) -/

section

namespace Sys2Proof.Machine

/-! ### How a step can end (R241, R242, R244, R245) -/

/-- An outcome is a next state, the abort of one of the twelve unassigned values, or the abort of a bus read from `s`. -/
def NextOrAborts (s : State) (r : Result) : Prop :=
  (∃ t, r = .next t) ∨ (∃ value address, value ∈ unassignedValues ∧ r = .fault (.undefinedOpcode value address)) ∨
    ∃ a f, busRead s a = .error f ∧ r = .fault f

/-- Where reads abort does not depend on what has been fetched. -/
theorem Fetched.busRead_error {s t : State} (h : Fetched s t) {a : Word} {f : Fault} (e : busRead t a = .error f) :
    busRead s a = .error f := by
  refine busRead_error_congr ?_ ?_ ?_ e <;> rw [h.eq]

/-- What was fetched and decoded runs to a next state or one of the two aborts. -/
theorem exec_decodeOp_nextOrAborts {s t : State} (h : Fetched s t) (op b1 b2 : Byte) :
    NextOrAborts s (exec (decodeOp op b1 b2) t) := by
  by_cases hu : ∃ value, decodeOp op b1 b2 = .unassigned value
  · obtain ⟨value, e⟩ := hu
    obtain ⟨_, hmem⟩ := eq_of_decodeOp_eq_unassigned e
    rw [e]
    exact .inr (.inl ⟨value, _, hmem, exec_unassigned value t⟩)
  · rcases exec_builds (decodeOp op b1 b2) t (fun value e => hu ⟨value, e⟩) with ⟨u, _, _, e⟩ | ⟨a, f, ha, e⟩
    · exact .inl ⟨u, e⟩
    · exact .inr (.inr ⟨a, f, h.busRead_error ha, e⟩)

theorem cpuStep_nextOrAborts (s : State) : NextOrAborts s (cpuStep s) := by
  unfold cpuStep
  split
  · exact .inl ⟨_, rfl⟩
  · split
    · next f e =>
      obtain ⟨a, ha⟩ := fetchInstr_error e
      exact .inr (.inr ⟨a, f, ha, rfl⟩)
    · next i t e =>
      obtain ⟨⟨op, b1, b2, rfl⟩, hfetched⟩ := fetchInstr_ok e
      exact exec_decodeOp_nextOrAborts hfetched op b1 b2

theorem step_nextOrAborts (s : State) : NextOrAborts s (step s) := by
  obtain ⟨agent, hs'⟩ := takeTurn_eq s
  unfold step
  split
  · next s' e =>
    obtain rfl : s' = { s with intAgent := agent } := by rw [← hs', e]
    rcases cpuStep_nextOrAborts { s with intAgent := agent } with h | h | ⟨a, f, ha, e⟩
    · exact .inl h
    · exact .inr (.inl h)
    · exact .inr (.inr ⟨a, f, busRead_error_congr rfl rfl rfl ha, e⟩)
  · exact .inl ⟨_, rfl⟩
  · exact .inl ⟨_, rfl⟩

/-- Settles O8: of the ends of a step (`step_nextOrAborts`) a bus read aborts only at an offset beyond the image. -/
theorem stepStopsOnlyByTwoAborts : Obligations.StepStopsOnlyByTwoAborts := by
  intro s
  rcases step_nextOrAborts s with h | h | ⟨a, f, ha, e⟩
  · exact .inl h
  · exact .inr (.inl h)
  · obtain ⟨offset, rfl, hle⟩ := busRead_error ha
    exact .inr (.inr ⟨offset, hle, e⟩)

/-! ### Where no read can abort (R48, R244) -/

/-- An address of the switchable window lies in the bank selected (R44). -/
theorem romWindowOffset_lt (s : State) {a : Word} (h : a.toNat < 0x8000) :
    romWindowOffset s a < (s.currentRomBank.toNat + 1) * Config.romBankSize := by
  unfold romWindowOffset Config.romBankSize
  omega

theorem busRead_completes {s : State} (h : s.WindowsInImage) (a : Word) : ∃ v, busRead s a = .ok v := by
  obtain ⟨hfixed, hbank⟩ := h
  by_cases h4 : a.toNat < 0x4000
  · exact ⟨_, (busRead_romFixed h4 s).trans (romAt_of_lt (Nat.lt_of_lt_of_le h4 hfixed))⟩
  by_cases h8 : a.toNat < 0x8000
  · exact ⟨_, (busRead_romWindow (by omega) h8 s).trans (romAt_of_lt (Nat.lt_of_lt_of_le (romWindowOffset_lt s h8) hbank))⟩
  by_cases hin : inPlatform a.toNat = true
  · exact ⟨_, busRead_inPlatform hin s⟩
  · rw [inPlatform_iff] at hin
    exact ⟨_, busRead_ramWindow (by omega) (by omega) s⟩

/-- With no controller the bank is 1, with MBC2 at most 0x0F, so these lengths cover every bank that can be selected (R22). -/
theorem State.BanksLegal.windowsInImage {s : State} (h : s.BanksLegal)
    (hlen : s.bankingType = .None ∧ 0x8000 ≤ s.romLen ∨ s.bankingType = .MBC2 ∧ 0x40000 ≤ s.romLen) : s.WindowsInImage := by
  obtain ⟨_, _, hMBC2, hNone⟩ := h
  unfold State.WindowsInImage Config.romBankSize
  rcases hlen with ⟨ht, hlen⟩ | ⟨ht, hlen⟩
  · obtain ⟨hbank, _⟩ := hNone ht
    have hone : s.currentRomBank.toNat = 1 := congrArg BitVec.toNat hbank
    omega
  · obtain ⟨hbank, _⟩ := hMBC2 ht
    omega

/-- Settles O9: the legal banks lie in such an image, so no bus read aborts, and a step has no other way to that abort. -/
theorem coveredImageNeverAbortsOnRom : Obligations.CoveredImageNeverAbortsOnRom := by
  refine ⟨fun s a h => busRead_completes h a, fun s offset hinv hlen hstep => ?_⟩
  obtain ⟨_, hbanks, _, _⟩ := hinv
  rcases step_nextOrAborts s with ⟨t, e⟩ | ⟨value, address, _, e⟩ | ⟨a, f, ha, _⟩
  · cases hstep.symm.trans e
  · cases hstep.symm.trans e
  · obtain ⟨v, hv⟩ := busRead_completes (hbanks.windowsInImage hlen) a
    cases ha.symm.trans hv

/-! ### The collaborator's turn (R250 to R254) -/

theorem step_of_wake {s : State} {ts : List Turn} (h : s.intAgent = some (.wake :: ts)) :
    step s = .next (wake { s with intAgent := some ts }) := by
  simp only [step, takeTurn, h]

theorem step_of_dispatch {s : State} {v : Word} {ts : List Turn} (h : s.intAgent = some (.dispatch v :: ts)) :
    step s = .next (dispatch v { s with intAgent := some ts }) := by
  simp only [step, takeTurn, h]

/-- Clearing `halted` before the push of a dispatch or after it is one (R252). -/
theorem dispatch_of_allowed {s : State} {v : Word} (hime : s.ime = true) (hv : v ∈ s.intVectors) :
    dispatch v s = (((push16 s s.pc).setHalted false).setPc v).setIme false := by
  have hpush : push16 (s.setHalted false) s.pc = (push16 s s.pc).setHalted false :=
    push16_mapControl id (fun _ => false) s s.pc
  rw [dispatch, if_pos ⟨hime, hv⟩, hpush]

theorem dispatch_of_forbidden {s : State} {v : Word} (h : s.ime = false ∨ v ∉ s.intVectors) : dispatch v s = s := by
  refine if_neg fun ⟨hime, hv⟩ => ?_
  rcases h with h | h
  · simp [hime] at h
  · exact h hv

/-- Settles O58: the dispatch is not the collaborator's to make. -/
theorem forbiddenDispatchChangesNothing : Obligations.ForbiddenDispatchChangesNothing :=
  fun _ _ _ h hno => (step_of_dispatch h).trans (congrArg _ (dispatch_of_forbidden hno))

/-- A dispatch is a push of PC, then `halted`, PC and IME written (R252, R254). -/
theorem dispatch_effect {s : State} {v : Word} (hime : s.ime = true) (hv : v ∈ s.intVectors) :
    (dispatch v s).pc = v ∧ (dispatch v s).ime = false ∧ (dispatch v s).halted = false ∧
      (dispatch v s).sp.value = s.sp.value - 2 ∧ (dispatch v s).cost = s.cost ∧ (dispatch v s).intAgent = s.intAgent ∧
      SameBus (dispatch v s) (busWrite (busWrite s (s.sp.value - 1) (hi8 s.pc)) (s.sp.value - 2) (lo8 s.pc)) ∧
      KeepsAllBut { pc := true, ime := true, halted := true, sp := true, accesses :=
        [.write (s.sp.value - 1) (hi8 s.pc), .write (s.sp.value - 2) (lo8 s.pc)] } s (dispatch v s) := by
  have hsp : s.sp.value - 2 = s.sp.value - 1 - 1 := by bv_omega
  have hcontrol : SameBus ((((push16 s s.pc).setHalted false).setPc v).setIme false) (push16 s s.pc) := by simp [SameBus]
  rw [hsp, dispatch_of_allowed hime hv]
  exact ⟨rfl, rfl, rfl, by simp, by simp, by simp, hcontrol.trans (push16_sameBus s s.pc),
    (((push16_keepsAllBut s s.pc).setHalted false).setPc v).setIme false⟩

/-- The turns left make no difference to the two stores of a push. -/
theorem busWrite_busWrite_intAgent_sameBus (s : State) (agent : Option (List Turn)) (a b : Word) (x y : Byte) :
    SameBus (busWrite (busWrite { s with intAgent := agent } a x) b y) (busWrite (busWrite s a x) b y) := by
  have hfirst : SameBus (busWrite { s with intAgent := agent } a x) (busWrite s a x) :=
    SameBus.write (s := s) (t := { s with intAgent := agent }) (SameBus.refl s) rfl Iff.rfl a x
  exact hfirst.write (by simp) (by simp) b y

/-- Settles O57: `Wake` is its definition, and `Dispatch` is made from the state with its turn used up (`dispatch_effect`). -/
theorem collaboratorMoves : Obligations.CollaboratorMoves := by
  refine fun s ts => ⟨fun h => step_of_wake h, fun v h hime hv => ?_⟩
  obtain ⟨hpc, himet, hhalted, hsp, hcost, hagent, hbus, hkeeps⟩ :=
    dispatch_effect (s := { s with intAgent := some ts }) hime hv
  exact ⟨_, step_of_dispatch h, hpc, himet, hhalted, hsp, hcost, hagent,
    hbus.trans (busWrite_busWrite_intAgent_sameBus s (some ts) _ _ _ _), hkeeps⟩

/-! ### Dispatch, then RETI (R170, R252, R257) -/

/-- A pop gives the same word wherever PC stands, and leaves it. -/
theorem pop16_setPc (s : State) (v : Word) : pop16 (s.setPc v) = (pop16 s).map (Prod.map id (·.setPc v)) := by
  have hnote (u : State) (a : Word) : (u.setPc v).noteRead a = (u.noteRead a).setPc v := rfl
  simp only [pop16_eq, busRead_setPc, State.setPc_sp, hnote]
  split
  · rfl
  · split <;> rfl

/-- Once PC holds again what it held, a frame need not name it. -/
theorem KeepsAllBut.setPc_of_eq {w : Touch} {s t : State} {v : Word} (h : KeepsAllBut w s t) (hv : s.pc = v) :
    KeepsAllBut w s (t.setPc v) := by
  obtain ⟨hr, hsp, hf, _, hime, hhalted, htype, hcb, hvec, hagent, hplat, hmem⟩ := h
  exact ⟨by simpa using hr, hsp, hf, fun _ => hv.symm, hime, hhalted, htype, hcb, hvec, hagent, hplat,
    hmem.sameBus (SameBus.refl t) rfl rfl rfl⟩

/-- Once IME holds again what it held, a frame need not name it. -/
theorem KeepsAllBut.setIme_of_eq {w : Touch} {s t : State} {b : Bool} (h : KeepsAllBut w s t) (hb : s.ime = b) :
    KeepsAllBut w s (t.setIme b) := by
  obtain ⟨hr, hsp, hf, hpc, _, hhalted, htype, hcb, hvec, hagent, hplat, hmem⟩ := h
  exact ⟨by simpa using hr, hsp, hf, hpc, fun _ => hb.symm, hhalted, htype, hcb, hvec, hagent, hplat,
    hmem.sameBus (SameBus.refl t) rfl rfl rfl⟩

/-- Where a pop gives back what a dispatch pushed, `RETI` writes PC and IME back from it (R170). -/
theorem exec_reti_dispatch {s t : State} {v : Word} (hime : s.ime = true) (hv : v ∈ s.intVectors)
    (hpop : pop16 (push16 s s.pc) = .ok (s.pc, t)) :
    exec .reti (dispatch v s) = .next ((((t.setHalted false).setPc s.pc).setIme true).setCost 16) := by
  have hdispatch : dispatch v s = ((push16 s s.pc).setPc v).mapControl (fun _ => false) (fun _ => false) :=
    dispatch_of_allowed hime hv
  have h : pop16 (dispatch v s) = .ok (s.pc, (t.setPc v).mapControl (fun _ => false) (fun _ => false)) := by
    rw [hdispatch, pop16_mapControl, pop16_setPc, hpop]
    rfl
  exact withPop_ok h _

/-- Settles O59: `RETI` pops what the dispatch pushed (`popAfterPushRestores`), and PC and IME are as before. -/
theorem interruptThenReturnResumes : Obligations.InterruptThenReturnResumes := by
  intro s v hime hv hp hr ha hb
  obtain ⟨t, hpop, hsp, _, _, hkeeps⟩ := popAfterPushRestores s s.pc hp hr ha hb
  exact ⟨_, exec_reti_dispatch hime hv hpop, rfl, hsp, rfl, rfl,
    (((hkeeps.setHalted false).setPc_of_eq rfl).setIme_of_eq hime).setCost 16⟩

/-! ### The halted stall (R284, R285) -/

theorem run_succ_of_step {s t : State} (h : step s = .next t) (k : Nat) :
    Sys2Proof.core.run (k + 1) s = Sys2Proof.core.run k t := by
  have hcore : Sys2Proof.core.step s = .next t := h
  simp only [Host.Core.run, hcore]

/-- With no collaborator every turn is the CPU's (R250). -/
theorem cpuTurn_of_no_agent {s : State} (h : s.intAgent = none) : CpuTurn s s := by
  simp only [CpuTurn, takeTurn, h]

theorem step_of_ended {s : State} (h : s.Ended) : step s = .next (s.setCost 4) := by
  obtain ⟨hh, hagent⟩ := h
  exact step_of_halted (cpuTurn_of_no_agent hagent) hh

/-- A run that has ended stalls at every step: the stall leaves it ended, and its cost the same again. -/
theorem run_of_ended {s : State} (h : s.Ended) (k : Nat) : Sys2Proof.core.run (k + 1) s = .next (s.setCost 4) := by
  induction k generalizing s with
  | zero => exact run_succ_of_step (step_of_ended h) 0
  | succ k ih => exact (run_succ_of_step (step_of_ended h) (k + 1)).trans (ih (s := s.setCost 4) h)

/-- Settles O7: a halted machine stalls, and a run that has ended does at every step (`run_of_ended`). -/
theorem haltedStepStallsForEver : Obligations.HaltedStepStallsForEver := by
  refine ⟨fun s s' hc hh => ?_, fun s k h => run_of_ended h k⟩
  obtain ⟨agent, rfl⟩ := hc.eq
  exact step_of_halted hc hh

end Sys2Proof.Machine

end
